-- ==== Sys2Proof/Word.lean ====
section
/-! DEFINITION. The word types of the block: the widths that 10_state.md gives its registers. -/

namespace Sys2Proof

/-- A bus word and a register of the window: 32 bits (R38). -/
abbrev Word := BitVec 32

/-- An 8-bit quantity: a ring slot, the cursor, the debounce counter (R33, R34, R35), a byte lane (R65). -/
abbrev Byte := BitVec 8

/-- A phase counter: 16 bits (R32). -/
abbrev Phase := BitVec 16

/-- A mask over the nine LEDs: bit `L - 1` stands for LED `L` (R13, R28). -/
abbrev LedMask := BitVec 9

end Sys2Proof
end

