-- ==== Sys2Proof/Config.lean ====
section
/-! DEFINITION. The configuration `cfg` of the block: one value for each build-time parameter of 00_scope.md R7.
The spec leaves no value free, so no constant without a body stands here. -/

namespace Sys2Proof

/-- The build-time parameters of R7. Every field is a plain number, so that a parameter set outside the legal
ranges can be written down and refused (R8, U4). WIN, RC_SEG, RC_SUB, LOG2C and SEGIDX are derived from these
(`Config.win`, `Config.rcSeg`, `Config.rcSub`, `Config.log2C`, `Config.segIdx`). WAIT has no field: it is
unobservable and the model has no time (R250, log entry 7). -/
structure Config where
  /-- PERIOD: fine ticks per breathing cycle. -/
  period : Nat
  /-- SEGMENTS: sinusoid samples, and equal windows per PERIOD. -/
  segments : Nat
  /-- SUBPERIOD: software-PWM sub-window length. -/
  subperiod : Nat
  /-- SINE_LUT[0..SEGMENTS-1]: sinusoid duty samples (R37, R122). -/
  sineLut : List Nat
  /-- C: moving-average ring capacity. -/
  capacity : Nat
  /-- LOW_THRESHOLD: battery raw-sample threshold. -/
  lowThreshold : Nat
  /-- GUARD: battery debounce trip count. -/
  guard : Nat
  /-- FLOOR: scaler floor. -/
  floor : Nat
  /-- SLOPE: scaler slope. -/
  slope : Nat
  /-- RESET_PHASE[0..2]: phase of each triad's active LED after reset. -/
  resetPhase : Vector Nat 3
  /-- BASE: bus address of the 4 KiB register window (R60). -/
  base : Nat
  deriving DecidableEq, Repr

end Sys2Proof
end

