-- ==== Sys2Proof/Machine/Params.lean ====
section
/-! DEFINITION. What the build derives from the parameters of R7: the reciprocal constants, the tables SEGIDX and
SINE_LUT, the condition on each parameter, and the reference configuration TESTCFG. -/

namespace Sys2Proof

/-- `recip(N) = round(65536 / N)` for `1 ≤ N ≤ 65536`, a 17-bit build-time constant (R101, C1). -/
def recip (n : Nat) : Nat := (131072 + n) / (2 * n)

/-- WIN = PERIOD / SEGMENTS, the window length (R7). -/
def Config.win (c : Config) : Nat := c.period / c.segments

/-- RC_SEG = recip(SEGMENTS) (R7, R100). -/
def Config.rcSeg (c : Config) : Nat := recip c.segments

/-- RC_SUB = recip(SUBPERIOD) (R7, R100). -/
def Config.rcSub (c : Config) : Nat := recip c.subperiod

/-- LOG2C = log2(C) (R7). -/
def Config.log2C (c : Config) : Nat := c.capacity.log2

/-- SEGIDX[p] = p / WIN for `p < PERIOD` (R36, R120). The table has PERIOD entries; this function gives its contents.
Outside the table, where no run comes (R42), the same formula stands (log entry 6, DESIGN CHOICE). -/
def Config.segIdx (c : Config) (p : Nat) : Nat := p / c.win

/-- SINE_LUT[s] for `s < SEGMENTS`; past the table's end 0, which is also what the word SINE_s reads there (R37, R38;
for the duty datapath log entry 6, DESIGN CHOICE). -/
def Config.sample (c : Config) (s : Nat) : Nat := if s < c.segments then c.sineLut.getD s 0 else 0

/-- `1 ≤ PERIOD ≤ 65536` (R7). -/
def Config.periodOk (c : Config) : Bool := decide (1 ≤ c.period) && decide (c.period ≤ 65536)

/-- `1 ≤ SEGMENTS ≤ 256` and SEGMENTS divides PERIOD (R7). -/
def Config.segmentsOk (c : Config) : Bool :=
  decide (1 ≤ c.segments) && decide (c.segments ≤ 256) && decide (c.period % c.segments = 0)

/-- `1 ≤ SUBPERIOD` and SUBPERIOD divides WIN (R7). -/
def Config.subperiodOk (c : Config) : Bool := decide (1 ≤ c.subperiod) && decide (c.win % c.subperiod = 0)

/-- SINE_LUT has SEGMENTS entries, each `0..255` (R7, R122). -/
def Config.sineOk (c : Config) : Bool :=
  decide (c.sineLut.length = c.segments) && c.sineLut.all (fun v => decide (v ≤ 255))

/-- C is a power of two, `1 ≤ C ≤ 256` (R7). -/
def Config.capacityOk (c : Config) : Bool := decide (2 ^ c.log2C = c.capacity) && decide (c.capacity ≤ 256)

/-- `LOW_THRESHOLD ≤ 2^32 - 1` (R7). -/
def Config.thresholdOk (c : Config) : Bool := decide (c.lowThreshold < 2 ^ 32)

/-- `GUARD ≤ 254` (R7). -/
def Config.guardOk (c : Config) : Bool := decide (c.guard ≤ 254)

/-- `FLOOR ≤ 255` and `SLOPE ≤ 255` (R7). -/
def Config.scalerOk (c : Config) : Bool := decide (c.floor ≤ 255) && decide (c.slope ≤ 255)

/-- Each RESET_PHASE[t] is `0..PERIOD-1` (R7). -/
def Config.resetPhaseOk (c : Config) : Bool :=
  decide (c.resetPhase[0] < c.period) && decide (c.resetPhase[1] < c.period) && decide (c.resetPhase[2] < c.period)

/-- BASE is 4096-aligned (R7, R60). -/
def Config.baseOk (c : Config) : Bool := decide (c.base % 4096 = 0)

/-- TESTCFG, the configuration of the spec's own test vectors (R7, R122, D35). The reset state of the machine is
built with it (log entry 1, DESIGN CHOICE). -/
def Config.testcfg : Config where
  period := 400
  segments := 20
  subperiod := 10
  sineLut := [0, 6, 24, 53, 88, 128, 167, 202, 231, 249, 255, 249, 231, 202, 167, 128, 88, 53, 24, 6]
  capacity := 8
  lowThreshold := 100
  guard := 5
  floor := 66
  slope := 3
  resetPhase := #v[0, 0, 0]
  base := 0

end Sys2Proof
end

