-- ==== Sys2Proof/Syntax.lean ====
section
/-! DEFINITION. The commands of the block, the command word's two fields, and the names of the registers of its window. -/

namespace Sys2Proof

/-- The six commands, one constructor for each row of the opcode table (R83). None has an operand field: operands come
from ARG0 and ARG1 (R81, R84). -/
inductive Instr where
  /-- NOP, opcode 0 (R190). -/
  | nop
  /-- RMUL, opcode 1 (R104). -/
  | rmul
  /-- ADVANCE, opcode 2 (R135). -/
  | advance
  /-- MAF_UPDATE, opcode 3 (R160). -/
  | mafUpdate
  /-- SCALE, opcode 4 (R170). -/
  | scale
  /-- BAT_UPDATE, opcode 5 (R180). -/
  | batUpdate
  deriving DecidableEq, Repr

/-- A command word as its two fields (R81): `op` is bits 3..0, `rsv` is bits 31..4. -/
structure CmdWord where
  op : BitVec 4
  rsv : BitVec 28
  deriving DecidableEq, Repr

/-- Why a command word is illegal (R82). -/
inductive IllegalCause where
  /-- `[31:4]` is zero and the opcode is 0x6..0xF: ERRCAUSE 1. -/
  | reservedOpcode
  /-- `[31:4]` is not zero: ERRCAUSE 2. -/
  | reservedBits
  deriving DecidableEq, Repr

/-- The registers of the window (R38), each under its own name. An offset that holds none of them is RAZ/WI. -/
inductive Reg where
  | cmd | arg0 | arg1 | res | status | leds | active | actIdx | mafCur | batCnt
  /-- PHASE_L, by its LED's index `L - 1`. -/
  | phase (l : Fin 9)
  | cfgPeriod | cfgSegments | cfgSubperiod | cfgWin | cfgRcSeg | cfgRcSub | cfgC | cfgLog2C
  | cfgLowThreshold | cfgGuard | cfgFloor | cfgSlope
  /-- CFG_RESET_PHASE_t. -/
  | cfgResetPhase (t : Fin 3)
  /-- RING_i. -/
  | ring (i : Fin 256)
  /-- SINE_s. -/
  | sine (s : Fin 256)
  deriving DecidableEq, Repr

end Sys2Proof
end

