-- ==== Sys2Proof/WellFormed.lean ====
section
/-! DEFINITION. What is well formed: a parameter set that can be built (R7, R8), a legal command word (R82, R87), an
instruction. -/

namespace Sys2Proof

/-- The parameter set is a buildable block: every range and divisibility condition of R7 holds (R8, D40). -/
def Config.buildable (c : Config) : Bool :=
  c.periodOk && c.segmentsOk && c.subperiodOk && c.sineOk && c.capacityOk && c.thresholdOk && c.guardOk &&
    c.scalerOk && c.resetPhaseOk && c.baseOk

/-- The command word is none of the reserved encodings: its reserved bits are zero and its opcode is 0x0..0x5
(R82, R87). -/
def CmdWord.legal (f : CmdWord) : Bool := decide (f.rsv = 0) && decide (f.op ≤ 5)

/-- A command has no operand field (R81), so each of the six is well formed as it stands. -/
def Instr.wellFormed : Instr → Bool
  | .nop => true
  | .rmul => true
  | .advance => true
  | .mafUpdate => true
  | .scale => true
  | .batUpdate => true

end Sys2Proof
end

