-- ==== Sys2Proof/Decode.lean ====
section
/-! DEFINITION. Decoding of a command word (R81 to R83), the byte lanes of a word (R65), and the encoder. -/

namespace Sys2Proof

/-- The fields of a command word (R81). -/
def fieldsOf (w : Word) : CmdWord := { op := w.extractLsb' 0 4, rsv := w.extractLsb' 4 28 }

/-- The opcode map (R83): the reserved opcodes 0x6..0xF have no command. -/
def instrOfOpcode (op : BitVec 4) : Option Instr :=
  match op.toNat with
  | 0 => some .nop
  | 1 => some .rmul
  | 2 => some .advance
  | 3 => some .mafUpdate
  | 4 => some .scale
  | 5 => some .batUpdate
  | _ => none

/-- Decoding of a CMD word, total, in the order of R82: reserved bits first, then the opcode. -/
def decode (w : Word) : Except IllegalCause Instr :=
  if (fieldsOf w).rsv ≠ 0 then .error .reservedBits
  else
    match instrOfOpcode (fieldsOf w).op with
    | some i => .ok i
    | none => .error .reservedOpcode

/-- Byte lane `k` of a word: bits `8k+7 .. 8k` (R65). -/
def lane (w : Word) (k : Nat) : Byte := w.extractLsb' (8 * k) 8

/-- The four byte lanes of a word, lowest bus address first (R65). -/
def lanes (w : Word) : List Byte := [lane w 0, lane w 1, lane w 2, lane w 3]

/-- The word on four byte lanes, lowest bus address first (R65). Any other number of bytes is no command word: there
are no shorter and no longer forms (R88). -/
def wordOfLanes : List Byte → Option Word
  | [b0, b1, b2, b3] => some (b3 ++ b2 ++ b1 ++ b0)
  | _ => none

/-- Why bytes decode to no command. -/
inductive DecodeError where
  /-- Not exactly four bytes (R88). -/
  | notOneWord
  /-- One word, but an illegal one (R82). -/
  | illegal (c : IllegalCause)
  deriving DecidableEq, Repr

/-- Decoding of the bytes of one command word, lowest bus address first. -/
def decodeBytes (bs : List Byte) : Except DecodeError Instr :=
  match wordOfLanes bs with
  | none => .error .notOneWord
  | some w =>
    match decode w with
    | .ok i => .ok i
    | .error c => .error (.illegal c)

/-- The opcode of a command (R83). -/
def opcodeOf : Instr → BitVec 4
  | .nop => 0x0
  | .rmul => 0x1
  | .advance => 0x2
  | .mafUpdate => 0x3
  | .scale => 0x4
  | .batUpdate => 0x5

/-- The word with these fields (R81). -/
def wordOfFields (f : CmdWord) : Word := f.rsv ++ f.op

/-- The CMD word of a command (R83): its opcode under 28 reserved zero bits. -/
def encode (i : Instr) : Word := wordOfFields { op := opcodeOf i, rsv := 0 }

/-- The command word of an opcode-table row: the row's low `nbits` bits of `w`, every bit above them zero. -/
def tableWord (nbits w : Nat) : Word := BitVec.ofNat 32 (w % 2 ^ nbits)

/-- The command the decoder reads from an opcode-table row's word, laid out on its byte lanes. Every command is one
32-bit word (R88), so a row of more than 32 bits would be none. -/
def decodeTableWord (nbits w : Nat) : Option Instr :=
  if 32 < nbits then none
  else
    match decodeBytes (lanes (tableWord nbits w)) with
    | .ok i => some i
    | .error _ => none

end Sys2Proof
end

