-- ==== Sys2Proof/Machine/State.lean ====
section
/-! DEFINITION. The state of the block, as 10_state.md R20 lists it, beside the bus port's two own fields; why a step can
stop; and the state at the end of reset. -/

namespace Sys2Proof.Machine

/-- What a bus access asks for. -/
inductive AccessKind where
  | read
  /-- A write and the word on its data lanes. A write of another width than 32 bits is refused with a bus error
  whatever its data (R62). -/
  | write (data : Word)
  deriving DecidableEq, Repr

/-- One bus access of a host: its bus address and its width in bits (R60, R62). -/
structure Access where
  kind : AccessKind
  addr : Nat
  bits : Nat
  deriving DecidableEq, Repr

/-- What can reach the block from outside. -/
inductive Event where
  /-- A bus access at the block's one port (R70, R210). -/
  | access (a : Access)
  /-- Power-up, or the platform asserting the reset input, up to the end of reset (R213, R230; one atomic step, U7). -/
  | reset
  /-- The supply falls below the level the block needs (R213). -/
  | brownOut
  deriving DecidableEq, Repr

/-- The two bus errors (R200, R203). -/
inductive BusError where
  /-- Code W: the access is not 32 bits wide. -/
  | width
  /-- Code A: a 32-bit access whose offset is not a multiple of 4. -/
  | misaligned
  deriving DecidableEq, Repr

/-- What the bus master last received from the block: the outcome of the access served last. -/
inductive Response where
  /-- No access has been served since reset. -/
  | idle
  /-- A read completed with this word. -/
  | readData (v : Word)
  /-- A write completed. -/
  | written
  /-- The access ended with a bus error; a read then returns no data (R200, U6). -/
  | error (e : BusError)
  deriving DecidableEq, Repr

/-- Reasons for the machine to stop with a fault: there are none. No command raises a fault and every command
completes (R202, R205); a bus error is a response on the bus, after which the block goes on (R200). Safe: no step of
the hardware that the spec describes is cut short. -/
inductive Fault where
  deriving DecidableEq, Repr

/-- Reasons for a step to have no meaning. -/
inductive Refusal where
  /-- A command without a meaning yet. No arm of `exec` raises it: every command is modelled. Safe. -/
  | notModelled (mnemonic : String)
  /-- Raised by a step of a machine whose parameter set violates a condition of R7: it is not a buildable block, and a
  model must refuse it (R8, U4). Safe: such a block does not exist. -/
  | unbuildableConfig
  /-- Raised by a bus access outside the window BASE .. BASE+0xFFF, which does not reach the block and is not specified
  (R60, U8: refuse). Safe: nothing is claimed of it. -/
  | outsideWindow
  /-- Raised by a brown-out, whose behaviour is not specified (R213, U14: refuse). Safe: nothing is claimed of it. -/
  | brownOut
  deriving DecidableEq, Repr

/-- The state of the block (R20). The configuration and the tables derived from it are read-only; the mutable elements
follow in the order of R20. `input` and `response` are the bus port's, not the block's: the accesses that are still to
come, in their order of arrival (R70), and what the last one returned (log entries 3 and 4). -/
structure State where
  /-- The build-time constants, which hold SINE_LUT and give SEGIDX (R7, R36, R37). -/
  cfg : Config
  /-- ARG0, operand register (R22). -/
  arg0 : Word
  /-- ARG1, operand register (R23). -/
  arg1 : Word
  /-- RES, result register (R24). -/
  res : Word
  /-- ERR, status flag (R25). -/
  err : Bool
  /-- ERRCAUSE, status field: 0 none, 1 reserved opcode, 2 reserved bits (R25). -/
  errCause : BitVec 2
  /-- BAT_GOOD, latch of the last battery_good (R26). -/
  batGood : Bool
  /-- LEDS_ON, on/off mask of the last ADVANCE (R28). -/
  ledsOn : LedMask
  /-- LEDS_CC, cycle-complete mask of the last ADVANCE (R28). -/
  ledsCc : LedMask
  /-- ACT[t], the member index of triad t's active LED. Its type has the three values the register takes (R29, U11). -/
  act : Vector (Fin 3) 3
  /-- PHASE[L], at index `L - 1` (R32). -/
  phase : Vector Phase 9
  /-- RING[0..C-1], the moving-average ring buffer (R33). -/
  ring : List Byte
  /-- CUR, the ring's write cursor (R34). -/
  cur : Byte
  /-- BATCNT, the battery debounce counter (R35). -/
  batCnt : Byte
  /-- What is still to reach the block from outside, oldest first (R70). -/
  input : List Event
  /-- The bus response to the access served last. -/
  response : Response
  deriving DecidableEq, Repr

/-- The state at the end of reset of a block built with the parameter set `c` (R43, R230), with nothing at its port. -/
def State.resetWith (c : Config) : State where
  cfg := c
  arg0 := 0
  arg1 := 0
  res := 0
  err := false
  errCause := 0
  batGood := true
  ledsOn := 0
  ledsCc := 0
  act := #v[0, 0, 0]
  phase := #v[BitVec.ofNat 16 c.resetPhase[0], BitVec.ofNat 16 c.resetPhase[1], BitVec.ofNat 16 c.resetPhase[2],
    0, 0, 0, 0, 0, 0]
  ring := List.replicate c.capacity 0
  cur := 0
  batCnt := 0
  input := []
  response := .idle

/-- The machine right after reset, built with TESTCFG (R7, R43; log entry 1, DESIGN CHOICE). -/
def State.reset : State := State.resetWith Config.testcfg

end Sys2Proof.Machine
end

