-- ==== Sys2Proof/Machine/Ops.lean ====
section
/-! DEFINITION. The shared operations: the reciprocal-multiply primitive, the LEDs of a triad, the named updates of the
state, the register map with its reads, and the two error outcomes of 60_exceptions.md. -/

namespace Sys2Proof.Machine

/-! ### Arithmetic -/

/-- `RM(x, r) = (x * r) >> 16`, the product exact (R102). It is not corrected towards `x / N` (R103, U2). -/
def rm (x r : Nat) : Nat := (x * r) >>> 16

/-! ### LEDs -/

/-- The index `L - 1` of `led(t, m) = t + 1 + 3*m` (R30). -/
def ledIndex (t m : Fin 3) : Fin 9 := ⟨t.val + 3 * m.val, by omega⟩

/-- The mask with LED index `l` set when `b` holds, else no LED (R13). -/
def ledBit (l : Fin 9) (b : Bool) : LedMask := if b then 1#9 <<< l.val else 0#9

/-- The active LED of triad `t`: `led(t, ACT[t])` (R29, R30). -/
def State.activeLed (s : State) (t : Fin 3) : Fin 9 := ledIndex t s.act[t.val]

/-- The active-flag mask ACTIVE, a view of ACT (R31). -/
def State.activeMask (s : State) : LedMask :=
  ledBit (s.activeLed 0) true ||| ledBit (s.activeLed 1) true ||| ledBit (s.activeLed 2) true

/-- Two masks as one word: `cc` in bits 24..16 and `on` in bits 8..0, the other bits zero (R38 LEDS, R85 ADVANCE). -/
def ledsWord (on cc : LedMask) : Word := 0#7 ++ cc ++ 0#7 ++ on

/-! ### Named updates of the state -/

/-- `ARG0 <- v` (R40). -/
def State.setArg0 (s : State) (v : Word) : State := { s with arg0 := v }

/-- `ARG1 <- v` (R40). -/
def State.setArg1 (s : State) (v : Word) : State := { s with arg1 := v }

/-- `RES <- v` (R24). -/
def State.setRes (s : State) (v : Word) : State := { s with res := v }

/-- `ERR <- e ; ERRCAUSE <- c` (R25). -/
def State.setStatus (s : State) (e : Bool) (c : BitVec 2) : State := { s with err := e, errCause := c }

/-- `LEDS_ON <- on ; LEDS_CC <- cc` (R28). -/
def State.setLeds (s : State) (on cc : LedMask) : State := { s with ledsOn := on, ledsCc := cc }

/-- `ACT[t] <- m` (R29). -/
def State.setAct (s : State) (t m : Fin 3) : State := { s with act := s.act.set t.val m }

/-- `PHASE[L] <- p`, at index `L - 1` (R32). -/
def State.setPhase (s : State) (l : Fin 9) (p : Phase) : State := { s with phase := s.phase.set l.val p }

/-- `RING[i] <- v` (R33). -/
def State.setRing (s : State) (i : Nat) (v : Byte) : State := { s with ring := s.ring.set i v }

/-- `CUR <- v` (R34). -/
def State.setCur (s : State) (v : Byte) : State := { s with cur := v }

/-- `BATCNT <- n ; BAT_GOOD <- good` (R26, R35). -/
def State.setBattery (s : State) (n : Byte) (good : Bool) : State := { s with batCnt := n, batGood := good }

/-- The bus response to the access being served. -/
def State.respond (s : State) (r : Response) : State := { s with response := r }

/-- What is still to come at the port. -/
def State.setInput (s : State) (rest : List Event) : State := { s with input := rest }

/-! ### The register map -/

/-- The offset of a register in the window (R38). -/
def offsetOf : Reg → Nat
  | .cmd => 0x000
  | .arg0 => 0x004
  | .arg1 => 0x008
  | .res => 0x00C
  | .status => 0x010
  | .leds => 0x014
  | .active => 0x018
  | .actIdx => 0x01C
  | .mafCur => 0x020
  | .batCnt => 0x024
  | .phase l => 0x040 + 4 * l.val
  | .cfgPeriod => 0x080
  | .cfgSegments => 0x084
  | .cfgSubperiod => 0x088
  | .cfgWin => 0x08C
  | .cfgRcSeg => 0x090
  | .cfgRcSub => 0x094
  | .cfgC => 0x098
  | .cfgLog2C => 0x09C
  | .cfgLowThreshold => 0x0A0
  | .cfgGuard => 0x0A4
  | .cfgFloor => 0x0A8
  | .cfgSlope => 0x0AC
  | .cfgResetPhase t => 0x0B0 + 4 * t.val
  | .ring i => 0x400 + 4 * i.val
  | .sine s => 0x800 + 4 * s.val

/-- The registers of R38 that stand alone, at the head of the window and in the configuration block. -/
def scalarRegAt (o : Nat) : Option Reg :=
  match o with
  | 0x000 => some .cmd
  | 0x004 => some .arg0
  | 0x008 => some .arg1
  | 0x00C => some .res
  | 0x010 => some .status
  | 0x014 => some .leds
  | 0x018 => some .active
  | 0x01C => some .actIdx
  | 0x020 => some .mafCur
  | 0x024 => some .batCnt
  | 0x080 => some .cfgPeriod
  | 0x084 => some .cfgSegments
  | 0x088 => some .cfgSubperiod
  | 0x08C => some .cfgWin
  | 0x090 => some .cfgRcSeg
  | 0x094 => some .cfgRcSub
  | 0x098 => some .cfgC
  | 0x09C => some .cfgLog2C
  | 0x0A0 => some .cfgLowThreshold
  | 0x0A4 => some .cfgGuard
  | 0x0A8 => some .cfgFloor
  | 0x0AC => some .cfgSlope
  | _ => none

/-- The register at an aligned offset of the window (R38); `none` for every other offset, which is RAZ/WI. -/
def regAt (o : Nat) : Option Reg :=
  if h : 0x040 ≤ o ∧ o < 0x064 then some (.phase ⟨(o - 0x040) / 4, by omega⟩)
  else if h : 0x0B0 ≤ o ∧ o < 0x0BC then some (.cfgResetPhase ⟨(o - 0x0B0) / 4, by omega⟩)
  else if h : 0x400 ≤ o ∧ o < 0x800 then some (.ring ⟨(o - 0x400) / 4, by omega⟩)
  else if h : 0x800 ≤ o ∧ o < 0xC00 then some (.sine ⟨(o - 0x800) / 4, by omega⟩)
  else scalarRegAt o

/-- STATUS: `[0]` ERR, `[1]` BAT_GOOD, `[5:4]` ERRCAUSE, the other bits zero (R38). -/
def State.statusWord (s : State) : Word :=
  0#26 ++ s.errCause ++ 0#2 ++ BitVec.ofBool s.batGood ++ BitVec.ofBool s.err

/-- ACTIDX: `[1:0]` ACT[0], `[9:8]` ACT[1], `[17:16]` ACT[2], the other bits zero (R38). -/
def State.actIdxWord (s : State) : Word :=
  0#14 ++ BitVec.ofNat 2 s.act[2].val ++ 0#6 ++ BitVec.ofNat 2 s.act[1].val ++ 0#6 ++ BitVec.ofNat 2 s.act[0].val

/-- RING[i] for `i < C`, else 0 (R33, R38). -/
def State.ringSlot (s : State) (i : Nat) : Byte := if i < s.cfg.capacity then s.ring.getD i 0 else 0

/-- The word a register reads as: its fields, every bit not listed in R38 zero. It has no side effect (R39), and CMD
reads 0 (R64). -/
def State.readReg (s : State) : Reg → Word
  | .cmd => 0
  | .arg0 => s.arg0
  | .arg1 => s.arg1
  | .res => s.res
  | .status => s.statusWord
  | .leds => ledsWord s.ledsOn s.ledsCc
  | .active => s.activeMask.setWidth 32
  | .actIdx => s.actIdxWord
  | .mafCur => s.cur.setWidth 32
  | .batCnt => s.batCnt.setWidth 32
  | .phase l => s.phase[l.val].setWidth 32
  | .cfgPeriod => BitVec.ofNat 32 s.cfg.period
  | .cfgSegments => BitVec.ofNat 32 s.cfg.segments
  | .cfgSubperiod => BitVec.ofNat 32 s.cfg.subperiod
  | .cfgWin => BitVec.ofNat 32 s.cfg.win
  | .cfgRcSeg => BitVec.ofNat 32 s.cfg.rcSeg
  | .cfgRcSub => BitVec.ofNat 32 s.cfg.rcSub
  | .cfgC => BitVec.ofNat 32 s.cfg.capacity
  | .cfgLog2C => BitVec.ofNat 32 s.cfg.log2C
  | .cfgLowThreshold => BitVec.ofNat 32 s.cfg.lowThreshold
  | .cfgGuard => BitVec.ofNat 32 s.cfg.guard
  | .cfgFloor => BitVec.ofNat 32 s.cfg.floor
  | .cfgSlope => BitVec.ofNat 32 s.cfg.slope
  | .cfgResetPhase t => BitVec.ofNat 32 s.cfg.resetPhase[t.val]
  | .ring i => (s.ringSlot i.val).setWidth 32
  | .sine i => BitVec.ofNat 32 (s.cfg.sample i.val)

/-- The word at an aligned offset of the window; an offset with no register reads 0 (R38, R64). -/
def State.readWord (s : State) (o : Nat) : Word :=
  match regAt o with
  | some r => s.readReg r
  | none => 0

/-! ### The two error outcomes

The block has no trap: nothing is saved, no mode changes and control goes nowhere (R205), so there is nothing to return
from (R206). What it has is an illegal command, which completes with a status, and a bus error, which is a response. -/

/-- The ERRCAUSE code of an illegal command (R25, R191, R203). -/
def causeCode : IllegalCause → BitVec 2
  | .reservedOpcode => 1
  | .reservedBits => 2

/-- An illegal command: `RES <- 0`, `ERR <- 1`, `ERRCAUSE <- cause`, nothing else (R191, R201). -/
def takeIllegal (c : IllegalCause) (s : State) : State := (s.setRes 0).setStatus true (causeCode c)

/-- A bus error: the access ends with an error response and no state of the block changes (R200). -/
def takeBusError (e : BusError) (s : State) : State := s.respond (.error e)

end Sys2Proof.Machine
end

