-- ==== Sys2Proof/Machine/Flags.lean ====
section
/-! DEFINITION. The status flags (R45): ERR and ERRCAUSE, which every command writes, and BAT_GOOD, which BAT_UPDATE
writes. No arithmetic command has a carry, overflow or zero flag. An illegal command's status is `takeIllegal`. -/

namespace Sys2Proof.Machine

/-- What every legal command does to the status: `ERR <- 0 ; ERRCAUSE <- 0` (R25). -/
def State.clearStatus (s : State) : State := s.setStatus false 0

/-- battery_good of a debounce count before its decrement: false when the count exceeds GUARD (R180). -/
def batteryGood (c : Config) (count : Nat) : Bool := !decide (count > c.guard)

end Sys2Proof.Machine
end

