-- ==== Sys2Proof/Machine/Operands.lean ====
section
/-! DEFINITION. How each command forms its operands from ARG0 and ARG1 at its CMD write (R84), and how a result is laid
out in RES (R85). The operands used whole (RMUL, SCALE, BAT_UPDATE) are ARG0 and ARG1 as they stand. -/

namespace Sys2Proof.Machine

/-- `min(a, 255)`: a value above 255 is clamped, not wrapped (R84). -/
def clamp255 (a : Word) : Byte := BitVec.ofNat 8 (min a.toNat 255)

/-- ADVANCE's operand `amp = min(ARG0, 255)` (R84). -/
def State.amplitude (s : State) : Byte := clamp255 s.arg0

/-- MAF_UPDATE's operand `sample = min(ARG0, 255)` (R84). -/
def State.sample (s : State) : Byte := clamp255 s.arg0

/-- `zext_32` of a result that is a number (R85). -/
def resultWord (v : Nat) : Word := BitVec.ofNat 32 v

end Sys2Proof.Machine
end

