-- ==== Sys2Proof/Machine/Animation.lean ====
section
/-! DEFINITION. The duty datapath, the per-triad state machine and ADVANCE (41_animation.md). -/

namespace Sys2Proof.Machine

/-! ### The duty datapath (R123 to R131) -/

/-- Step 2: `lb = RM(PERIOD * s, RC_SEG)`, not corrected towards the exact window start (R125). -/
def lowerBound (c : Config) (seg : Nat) : Nat := rm (c.period * seg) c.rcSeg

/-- Step 3: `pos = RM(trunc_32(p - lb), RC_SUB)`; the subtraction wraps when `lb > p` (R126). -/
def subWindow (c : Config) (p lb : Nat) : Nat := rm (BitVec.ofNat 32 p - BitVec.ofNat 32 lb).toNat c.rcSub

/-- `a = ((x + 1) * 257) >> 16` for `x = SINE_LUT[s] * amp`: floor(x / 255) without a divider (R127). -/
def scaleSample (x : Nat) : Nat := ((x + 1) * 257) >>> 16

/-- `on_len = (a * SUBPERIOD) >> 8` (R128). -/
def onLength (c : Config) (a : Nat) : Nat := (a * c.subperiod) >>> 8

/-- Step 4: `T = trunc_32(lb + trunc_32(pos * SUBPERIOD) + on_len)` (R129). -/
def transitionToLow (c : Config) (lb pos onLen : Nat) : Word :=
  BitVec.ofNat 32 lb + BitVec.ofNat 32 (pos * c.subperiod) + BitVec.ofNat 32 onLen

/-- `duty(p, amp)`: the LED is on when `p < T` as unsigned 32-bit numbers (R130, R131). It reads no mutable state. -/
def duty (c : Config) (p amp : Nat) : Bool :=
  let seg := c.segIdx p
  let lb := lowerBound c seg
  let pos := subWindow c p lb
  let a := scaleSample (c.sample seg * amp)
  decide (BitVec.ofNat 32 p < transitionToLow c lb pos (onLength c a))

/-! ### The state machine of a triad (R133) -/

/-- The next step of triad `t` wraps its active phase from PERIOD-1 to 0. -/
def State.wraps (s : State) (t : Fin 3) : Bool :=
  decide (s.phase[(s.activeLed t).val].toNat + 1 = s.cfg.period)

/-- `advance_triad(t)`: the active phase advances; on the wrap it returns to 0, the next member of the rotation becomes
active and its phase is set to 0 (R133). -/
def advanceTriad (t : Fin 3) (s : State) : State :=
  if s.wraps t then
    ((s.setPhase (s.activeLed t) 0).setAct t (s.act[t.val] + 1)).setPhase (ledIndex t (s.act[t.val] + 1)) 0
  else s.setPhase (s.activeLed t) (s.phase[(s.activeLed t).val] + 1)

/-- Every triad advances once. The triads touch disjoint state, so their order is not observable (R11, R135). -/
def advanceTriads (s : State) : State := advanceTriad 2 (advanceTriad 1 (advanceTriad 0 s))

/-- The cycle-complete bit of triad `t` in the tick that starts from `s`: the LED whose phase wraps, which is the member
being deactivated (R134). -/
def State.ccBit (s : State) (t : Fin 3) : LedMask := ledBit (s.activeLed t) (s.wraps t)

/-- The cycle-complete mask of the tick that starts from `s` (R135). -/
def State.ccMask (s : State) : LedMask := s.ccBit 0 ||| s.ccBit 1 ||| s.ccBit 2

/-- The on/off bit of triad `t`, from the active LED and its phase as they stand in `s`. -/
def State.onBit (s : State) (amp : Nat) (t : Fin 3) : LedMask :=
  ledBit (s.activeLed t) (duty s.cfg s.phase[(s.activeLed t).val].toNat amp)

/-- The on/off mask: one decision for each active LED, the other six off (R135). -/
def State.onMask (s : State) (amp : Nat) : LedMask := s.onBit amp 0 ||| s.onBit amp 1 ||| s.onBit amp 2

/-! ### ADVANCE -/

/-- ADVANCE: one fine tick. The phases advance first; the on/off mask is formed from the state after that, the
cycle-complete mask from the wraps of this tick; both go to LEDS_ON, LEDS_CC and RES (R135). BAT_GOOD does not gate
them (R27). -/
def execAdvance (s : State) : Host.Outcome State Fault Refusal :=
  let cc := s.ccMask
  let s' := advanceTriads s
  let on := s'.onMask s.amplitude.toNat
  .next ((s'.setLeds on cc).setRes (ledsWord on cc)).clearStatus

end Sys2Proof.Machine
end

