-- ==== Sys2Proof/Machine/Battery.lean ====
section
/-! DEFINITION. BAT_UPDATE (44_battery_monitor.md). -/

namespace Sys2Proof.Machine

/-- The debounce count with this sample in it: a low sample increments it, saturating at 255, any other sets it to 0.
The comparison is strict and unsigned (R180). -/
def debounceCount (c : Config) (raw : Word) (n : Byte) : Nat :=
  if raw.toNat < c.lowThreshold then min (n.toNat + 1) 255 else 0

/-- BAT_UPDATE: a count above GUARD reports battery_good = 0 and is stored less 1; any other count reports
battery_good = 1 and is stored as it is (R180). -/
def execBatUpdate (s : State) : Host.Outcome State Fault Refusal :=
  let count := debounceCount s.cfg s.arg0 s.batCnt
  let good := batteryGood s.cfg count
  let stored := if good then count else count - 1
  .next ((s.setBattery (BitVec.ofNat 8 stored) good).setRes (resultWord good.toNat)).clearStatus

end Sys2Proof.Machine
end

