-- ==== Sys2Proof/Machine/Control.lean ====
section
/-! DEFINITION. NOP (45_control.md). -/

namespace Sys2Proof.Machine

/-- NOP: `ERR <- 0 ; ERRCAUSE <- 0`; RES keeps its value (R190). -/
def execNop (s : State) : Host.Outcome State Fault Refusal := .next s.clearStatus

end Sys2Proof.Machine
end

