-- ==== Sys2Proof/Machine/MovingAverage.lean ====
section
/-! DEFINITION. MAF_UPDATE (42_moving_average.md). -/

namespace Sys2Proof.Machine

/-- `RING[0] + ... + RING[C-1]`, exact (R160). -/
def ringSum (ring : List Byte) : Nat := (ring.map BitVec.toNat).sum

/-- The cursor after `cur`: `(CUR + 1) mod C` (R160). -/
def nextCursor (c : Config) (cur : Byte) : Byte := BitVec.ofNat 8 ((cur.toNat + 1) % c.capacity)

/-- MAF_UPDATE: the sample overwrites the slot at the cursor, the cursor advances modulo C, and the result is the sum
over all C slots after the write, shifted right by LOG2C (R160). Slots not written since reset count as 0 (R161). -/
def execMafUpdate (s : State) : Host.Outcome State Fault Refusal :=
  let s' := (s.setRing s.cur.toNat s.sample).setCur (nextCursor s.cfg s.cur)
  .next (s'.setRes (resultWord (ringSum s'.ring >>> s.cfg.log2C))).clearStatus

end Sys2Proof.Machine
end

