-- ==== Sys2Proof/Machine/Reciprocal.lean ====
section
/-! DEFINITION. RMUL (40_recip_multiply.md). -/

namespace Sys2Proof.Machine

/-- Bits 47..16 of the exact 64-bit product of two words (R104). -/
def mulShift16 (x r : Word) : Word := (x.setWidth 64 * r.setWidth 64).extractLsb' 16 32

/-- RMUL: `RES <- prod[47:16]` with `prod = ARG0 * ARG1` (R104). -/
def execRmul (s : State) : Host.Outcome State Fault Refusal :=
  .next (s.setRes (mulShift16 s.arg0 s.arg1)).clearStatus

end Sys2Proof.Machine
end

