-- ==== Sys2Proof/Machine/Scaler.lean ====
section
/-! DEFINITION. SCALE (43_brightness_scaler.md). -/

namespace Sys2Proof.Machine

/-- `min(FLOOR + code * SLOPE, 255)`, the sum exact (R170). -/
def scaleCode (c : Config) (code : Nat) : Nat := min (c.floor + code * c.slope) 255

/-- SCALE: `RES <- zext_32(min(FLOOR + ARG0 * SLOPE, 255))` (R170). -/
def execScale (s : State) : Host.Outcome State Fault Refusal :=
  .next (s.setRes (resultWord (scaleCode s.cfg s.arg0.toNat))).clearStatus

end Sys2Proof.Machine
end

