-- ==== Sys2Proof/Machine/Dispatch.lean ====
section
/-! DEFINITION. The meaning of each command, one arm per row of the opcode table (R83). -/

namespace Sys2Proof.Machine

def exec (i : Instr) (s : State) : Host.Outcome State Fault Refusal :=
  match i with
  | .nop => Sys2Proof.Machine.execNop s
  | .rmul => Sys2Proof.Machine.execRmul s
  | .advance => Sys2Proof.Machine.execAdvance s
  | .mafUpdate => Sys2Proof.Machine.execMafUpdate s
  | .scale => Sys2Proof.Machine.execScale s
  | .batUpdate => Sys2Proof.Machine.execBatUpdate s

end Sys2Proof.Machine
end

