-- ==== Sys2Proof/Machine/Bus.lean ====
section
/-! DEFINITION. The bus port (20_memory.md): which accesses reach the block, which end in a bus error, what a read and a
write of each register do, how a CMD write executes a command, and how the next event is served. -/

namespace Sys2Proof.Machine

/-- The access is to the window BASE .. BASE+0xFFF (R60). -/
def Access.inWindow (a : Access) (c : Config) : Bool := decide (c.base ≤ a.addr) && decide (a.addr < c.base + 4096)

/-- The offset of an access in the window (R60). -/
def Access.offset (a : Access) (c : Config) : Nat := a.addr - c.base

/-- The bus error an access ends with, if any: its width is checked before its alignment (R62, R63, R204). -/
def Access.busError (a : Access) (c : Config) : Option BusError :=
  if a.bits ≠ 32 then some .width
  else if a.offset c % 4 ≠ 0 then some .misaligned
  else none

/-- A write of the word `w` to CMD: the command it decodes to, on ARG0 and ARG1 as they stand, or an illegal command
(R80, R82). CMD itself stores nothing (R40). -/
def execWord (w : Word) (s : State) : Host.Outcome State Fault Refusal :=
  match decode w with
  | .ok i => exec i s
  | .error c => .next (takeIllegal c s)

/-- An aligned 32-bit write at an offset of the window. ARG0, ARG1 and CMD are the only registers that take one; any
other is ignored without an error (R40, R64). -/
def writeWord (o : Nat) (w : Word) (s : State) : Host.Outcome State Fault Refusal :=
  match regAt o with
  | some .cmd => execWord w s
  | some .arg0 => .next (s.setArg0 w)
  | some .arg1 => .next (s.setArg1 w)
  | _ => .next s

/-- One access that reaches the block, served whole before the next (R66, R70). -/
def serve (a : Access) (s : State) : Host.Outcome State Fault Refusal :=
  if a.inWindow s.cfg then
    match a.busError s.cfg with
    | some e => .next (takeBusError e s)
    | none =>
      match a.kind with
      | .read => .next (s.respond (.readData (s.readWord (a.offset s.cfg))))
      | .write w => writeWord (a.offset s.cfg) w (s.respond .written)
  else .refused .outsideWindow

/-- The oldest event at the port. With none there, nothing is in flight and nothing changes (R44). A reset, at any time,
gives the reset state of the same build (R230); what is still to come stays to come. A parameter set that cannot be
built has no behaviour (R8). -/
def serveNext (s : State) : Host.Outcome State Fault Refusal :=
  if s.cfg.buildable then
    match s.input with
    | [] => .next s
    | .access a :: rest => serve a (s.setInput rest)
    | .reset :: rest => .next ((State.resetWith s.cfg).setInput rest)
    | .brownOut :: _ => .refused .brownOut
  else .refused .unbuildableConfig

end Sys2Proof.Machine
end

