-- ==== Sys2Proof/Machine/HostScript.lean ====
section
/-! DEFINITION. The host's side of the port: the host-script notation of R89, whose programs are lists of bus
accesses. -/

namespace Sys2Proof.Machine

/-- `wr NAME, v` (R89). -/
def wr (c : Config) (r : Reg) (v : Word) : Event :=
  .access { kind := .write v, addr := c.base + offsetOf r, bits := 32 }

/-- `rd NAME` (R89). -/
def rd (c : Config) (r : Reg) : Event := .access { kind := .read, addr := c.base + offsetOf r, bits := 32 }

/-- A CMD write with the operands as they stand: `rmul`, `advance`, `maf`, `scale`, `bat` with no operand, and `nop`
(R89). -/
def issue (c : Config) (i : Instr) : Event := wr c .cmd (encode i)

/-- `nop` (R89). -/
def scriptNop (c : Config) : List Event := [issue c .nop]

/-- `rmul x, r` (R89). -/
def scriptRmul (c : Config) (x r : Word) : List Event := [wr c .arg0 x, wr c .arg1 r, issue c .rmul]

/-- `advance amp` (R89). -/
def scriptAdvance (c : Config) (amp : Word) : List Event := [wr c .arg0 amp, issue c .advance]

/-- `maf v` (R89). -/
def scriptMaf (c : Config) (v : Word) : List Event := [wr c .arg0 v, issue c .mafUpdate]

/-- `scale c` (R89). -/
def scriptScale (c : Config) (code : Word) : List Event := [wr c .arg0 code, issue c .scale]

/-- `bat raw` (R89). -/
def scriptBat (c : Config) (raw : Word) : List Event := [wr c .arg0 raw, issue c .batUpdate]

end Sys2Proof.Machine
end

