-- ==== Sys2Proof/Machine/Step.lean ====
section
/-! DEFINITION. One step of the machine, and where the host puts the command that the next step runs. -/

namespace Sys2Proof.Machine

/-- One step: the next event at the bus port is served, whole (R66, R70). -/
def step (s : State) : Host.Outcome State Fault Refusal := serveNext s

/-- `s` with a host's write of this command word to CMD next at the port: the block fetches no program (R21), so a
command comes to run in no other way (R80; log entry 5). -/
def State.withFetchWord (s : State) (nbits w : Nat) : State :=
  s.setInput (wr s.cfg .cmd (tableWord nbits w) :: s.input)

end Sys2Proof.Machine
end

