-- ==== Sys2Proof/Machine/HostProgram.lean ====
section
/-! DEFINITION. A host program in front of the block: its command sequences (R86), and the host fault it ends with when
it interleaves them (R240, U1). The block itself knows no sequences and serves each access by itself (R72, R211). -/

namespace Sys2Proof.Machine

/-- What a host program sends to the block: an event, and the command sequence it belongs to. `none` is an access of no
sequence, such as a read of a configuration register (log entry 11). -/
structure HostAccess where
  sequence : Option Nat
  event : Event
  deriving DecidableEq, Repr

/-- What an event can be in a command sequence (R86). -/
inductive SequenceRole where
  /-- An operand write or a CMD write. -/
  | write
  /-- A result read: of RES, STATUS or LEDS. -/
  | read
  /-- Anything else: a read of another register, an ignored write, an access that ends with a bus error or does not
  reach the block, a reset, a brown-out. -/
  | other
  deriving DecidableEq, Repr

/-- The role of an access that the block accepts, by its kind and the register it reaches. -/
def registerRole : AccessKind → Option Reg → SequenceRole
  | .write _, some .arg0 => .write
  | .write _, some .arg1 => .write
  | .write _, some .cmd => .write
  | .read, some .res => .read
  | .read, some .status => .read
  | .read, some .leds => .read
  | _, _ => .other

/-- The role of an event at a block with this configuration. -/
def Event.role (c : Config) : Event → SequenceRole
  | .access a =>
    if a.inWindow c && a.busError c == none then registerRole a.kind (regAt (a.offset c)) else .other
  | .reset => .other
  | .brownOut => .other

/-- Reasons for a host program to stop with a fault. -/
inductive HostFault where
  /-- Raised by a write or a result read of a command sequence after the writes of which another sequence has written:
  that one started before this one's last access (R240, U1: fault). Safe: the source calls the results undefined. -/
  | interleavedSequences
  deriving DecidableEq, Repr

/-- What is known of a host program's sequences: the one that wrote last (`none` before any write, and after a write of
no sequence), and those that another write has followed. -/
structure SequenceMonitor where
  current : Option Nat
  overtaken : List Nat
  deriving DecidableEq, Repr

/-- No sequence has written. -/
def SequenceMonitor.start : SequenceMonitor := { current := none, overtaken := [] }

/-- Another write has followed a write of the sequence. -/
def SequenceMonitor.isOvertaken (m : SequenceMonitor) : Option Nat → Bool
  | none => false
  | some q => decide (q ∈ m.overtaken)

/-- The sequence writes. A write of no sequence stands for a sequence of its own (log entry 11). -/
def SequenceMonitor.write (m : SequenceMonitor) (q : Option Nat) : SequenceMonitor :=
  if m.current = q then m else { current := q, overtaken := m.current.toList ++ m.overtaken }

/-- The monitor after an event of this role and sequence; none where the event makes the sequences interleave. -/
def SequenceMonitor.observe (m : SequenceMonitor) (q : Option Nat) : SequenceRole → Option SequenceMonitor
  | .write => if m.isOvertaken q then none else some (m.write q)
  | .read => if m.isOvertaken q then none else some m
  | .other => some m

/-- The block and the host program in front of it. -/
structure HostState where
  block : State
  monitor : SequenceMonitor
  deriving DecidableEq, Repr

/-- The host program's next event: a host fault where it interleaves two sequences (R240, U1), else one step of the
block at that event. -/
def hostStep (a : HostAccess) (h : HostState) : Host.Outcome HostState HostFault Refusal :=
  match h.monitor.observe a.sequence (a.event.role h.block.cfg) with
  | none => .fault .interleavedSequences
  | some m =>
    match step (h.block.setInput [a.event]) with
    | .next s => .next { block := s, monitor := m }
    | .fault r => nomatch r
    | .refused r => .refused r

/-- A host program's events one after another, up to the first fault or refusal. -/
def runHost : List HostAccess → HostState → Host.Outcome HostState HostFault Refusal
  | [], h => .next h
  | a :: rest, h =>
    match hostStep a h with
    | .next h' => runHost rest h'
    | .fault r => .fault r
    | .refused r => .refused r

/-- A command sequence: its operand writes, its CMD write, its result reads (R86). -/
structure CommandSequence where
  number : Nat
  operands : List (Bool × Word)
  command : Word
  results : List Reg
  deriving DecidableEq, Repr

/-- The sequence as a host program's accesses; an operand is written to ARG1 when its flag is set and to ARG0
otherwise. -/
def CommandSequence.trace (c : Config) (q : CommandSequence) : List HostAccess :=
  (q.operands.map (fun o => wr c (if o.1 then .arg1 else .arg0) o.2) ++ wr c .cmd q.command ::
    q.results.map (rd c)).map (fun e => { sequence := some q.number, event := e })

end Sys2Proof.Machine
end

