-- ==== Sys2Proof/Safety.lean ====
section
/-! DEFINITION. The invariant of R42, repeated commands, and host programs that serialize their command sequences. -/

namespace Sys2Proof.Machine

/-- The invariants of R42, which hold at reset and after every command, for a block that can be built. Item (1), that
ACT[t] is 0, 1 or 2, and item (6), that a ring slot is at most 255, hold by the types of the two fields. -/
structure State.Inv (s : State) : Prop where
  /-- The parameter set is a buildable block (R8). -/
  buildable : s.cfg.buildable = true
  /-- Item (2): `PHASE[L] ≤ PERIOD - 1`. -/
  phaseBound : ∀ l : Fin 9, s.phase[l.val].toNat + 1 ≤ s.cfg.period
  /-- Item (3): the phase of an LED that is not active is 0. -/
  inactiveZero : ∀ t m : Fin 3, m ≠ s.act[t.val] → s.phase[(ledIndex t m).val] = 0
  /-- RING has C slots (R33). -/
  ringLength : s.ring.length = s.cfg.capacity
  /-- Item (4): `CUR < C`. -/
  curBound : s.cur.toNat < s.cfg.capacity
  /-- Item (5): `BATCNT ≤ GUARD`. -/
  batBound : s.batCnt.toNat ≤ s.cfg.guard
  /-- Item (7): ERRCAUSE = 0 if and only if ERR = 0. -/
  errIff : s.errCause = 0 ↔ s.err = false
  /-- ERRCAUSE 3 is never produced (R25). -/
  causeLegal : s.errCause ≠ 3

/-- A run of the machine from `s` is safe for `n` steps: no step of it faults or is refused. -/
def SafeFor (n : Nat) (s : State) : Prop := ∃ t : State, Sys2Proof.core.run n s = .next t

/-- The command `i` issued once for each operand word, ARG0 holding that word at its CMD write (R86). -/
def repeatCommand (i : Instr) : List Word → State → Host.Outcome State Fault Refusal
  | [], s => .next s
  | x :: xs, s =>
    match exec i (s.setArg0 x) with
    | .next t => repeatCommand i xs t
    | .fault r => .fault r
    | .refused r => .refused r

/-- The host serializes its command sequences: a sequence that has written takes part no more once another write has
come, so that none starts between another's first write and its last access (R240). What takes part in no sequence, or
neither writes nor reads a result, may stand anywhere. -/
def Serialized (c : Config) (tr : List HostAccess) : Prop :=
  ∀ (q i j k : Nat) (x y z : HostAccess), i < j → j < k → tr[i]? = some x → tr[j]? = some y → tr[k]? = some z →
    x.sequence = some q → x.event.role c = .write → y.sequence ≠ some q → y.event.role c = .write →
    z.sequence = some q → z.event.role c = .other

end Sys2Proof.Machine
end

