-- ==== Sys2Proof/Certificates/Slice0/Obligations.lean ====
section
/-! DEFINITION. The statements about the model, each with the rule of spec/ it comes from. In all of them the
configuration is the state's own, so that each holds for every parameter set that meets its hypotheses. -/

open Sys2Proof Sys2Proof.Machine

/-! ### Encoding -/

/-- The six CMD words of R83 decode to their commands, and each reserved opcode to an illegal command of cause 1. -/
def Obligations.OpcodeMapDecodes : Prop :=
  decode 0x00000000#32 = .ok .nop ∧ decode 0x00000001#32 = .ok .rmul ∧ decode 0x00000002#32 = .ok .advance ∧
  decode 0x00000003#32 = .ok .mafUpdate ∧ decode 0x00000004#32 = .ok .scale ∧
  decode 0x00000005#32 = .ok .batUpdate ∧
  ∀ op : Fin 16, 6 ≤ op.val → decode (BitVec.ofNat 32 op.val) = .error .reservedOpcode

/-- R82: the reserved bits are checked first, then the opcode; every other word is one of the six command words; an
illegal command has the effect of R191. -/
def Obligations.DecodingOrderOfCommandWord : Prop :=
  ∀ (w : Word) (s : State),
    (w.toNat / 16 ≠ 0 → decode w = .error .reservedBits) ∧
    (w.toNat / 16 = 0 → 6 ≤ w.toNat % 16 → decode w = .error .reservedOpcode) ∧
    (w.toNat / 16 = 0 → w.toNat % 16 < 6 → ∃ i, decode w = .ok i ∧ (opcodeOf i).toNat = w.toNat % 16) ∧
    (∀ c, decode w = .error c →
      execWord w s = .next { s with
        res := 0, err := true, errCause := if w.toNat / 16 ≠ 0 then 2 else 1 })

/-- Decode and encode agree on the bytes of a command word, in both directions: every well-formed command is read back
from the four byte lanes of its word, and those four bytes are the only ones that decode to it (R65, R81, R83, R88). -/
def Obligations.DecodeEncodeAgreeOnBytes : Prop :=
  (∀ i : Instr, i.wellFormed = true → decodeBytes (lanes (encode i)) = .ok i) ∧
  (∀ (bs : List Byte) (i : Instr), decodeBytes bs = .ok i → bs = lanes (encode i))

/-- R65: byte lane `k` of a word is its bits `8k+7 .. 8k`, and the four lanes give the word back. -/
def Obligations.ByteLanesAreLittleEndian : Prop :=
  ∀ w : Word, (∀ k, k < 4 → (lane w k).toNat = w.toNat / 256 ^ k % 256) ∧ wordOfLanes (lanes w) = some w

/-! ### Results and frames of the commands

Each equation names every field the command writes; all other state is unchanged. -/

/-- R190: NOP is CMD word 0; it clears ERR and ERRCAUSE and writes nothing else. -/
def Obligations.NopClearsStatusOnly : Prop :=
  encode .nop = 0x00000000#32 ∧ ∀ s : State, exec .nop s = .next { s with err := false, errCause := 0 }

/-- R104: RMUL is CMD word 1; RES becomes bits 47..16 of the exact product ARG0 * ARG1, which is `RM(x, r)` with nothing
truncated for `r ≤ 65536`, and ARG0 itself for `r = 65536`; nothing but RES and the status is written. -/
def Obligations.RmulResult : Prop :=
  encode .rmul = 0x00000001#32 ∧
  ∀ s : State, ∃ t, exec .rmul s = .next t ∧
    t = { s with res := BitVec.ofNat 32 (s.arg0.toNat * s.arg1.toNat / 65536), err := false, errCause := 0 } ∧
    (s.arg1.toNat ≤ 65536 → t.res.toNat = rm s.arg0.toNat s.arg1.toNat) ∧
    (s.arg1.toNat = 65536 → t.res = s.arg0) ∧
    (s.arg0 = 0 ∨ s.arg1 = 0 → t.res = 0)

/-- R170: SCALE is CMD word 4; RES becomes FLOOR + ARG0 * SLOPE, the sum exact, clamped to 255 from above. -/
def Obligations.ScaleResult : Prop :=
  encode .scale = 0x00000004#32 ∧
  ∀ s : State, exec .scale s = .next { s with
    res := if s.cfg.floor + s.arg0.toNat * s.cfg.slope ≤ 255
      then BitVec.ofNat 32 (s.cfg.floor + s.arg0.toNat * s.cfg.slope) else 255,
    err := false, errCause := 0 }

/-- R171, first sentence: with FLOOR = 66 and SLOPE = 3 the codes 0..63 go one-to-one onto 66, 69, ..., 255 and every
code from 63 on gives 255. -/
def Obligations.ReferenceScaleIsOneToOne : Prop :=
  ∀ s : State, s.cfg.floor = 66 → s.cfg.slope = 3 → ∃ t, exec .scale s = .next t ∧
    (s.arg0.toNat ≤ 63 → t.res.toNat = 66 + 3 * s.arg0.toNat) ∧ (63 ≤ s.arg0.toNat → t.res.toNat = 255)

/-- R180: BAT_UPDATE is CMD word 5; the count is incremented with saturation by a low sample (strictly below
LOW_THRESHOLD) and zeroed by any other; above GUARD it is stored less 1 and battery_good is 0, else it is stored and
battery_good is 1. -/
def Obligations.BatUpdateResult : Prop :=
  encode .batUpdate = 0x00000005#32 ∧
  ∀ (s : State) (c : Nat),
    c = (if s.arg0.toNat < s.cfg.lowThreshold then min (s.batCnt.toNat + 1) 255 else 0) →
    exec .batUpdate s = .next { s with
      batCnt := BitVec.ofNat 8 (if s.cfg.guard < c then c - 1 else c), batGood := decide (c ≤ s.cfg.guard),
      res := if s.cfg.guard < c then 0 else 1, err := false, errCause := 0 }

/-- R181: a sample at or above LOW_THRESHOLD clears a tripped state on the same command. -/
def Obligations.GoodSampleClearsTrip : Prop :=
  ∀ s : State, s.cfg.lowThreshold ≤ s.arg0.toNat → exec .batUpdate s = .next { s with
    batCnt := 0, batGood := true, res := 1, err := false, errCause := 0 }

/-- R182: at BATCNT = GUARD a low sample reports 0 and leaves BATCNT at GUARD; over any run of low samples from
BATCNT = 0 the count is the number of samples up to GUARD, and battery_good is 0 from the (GUARD+1)-th on. -/
def Obligations.BatteryTripsAfterGuardLowSamples : Prop :=
  (∀ s : State, s.cfg.guard ≤ 254 → s.batCnt.toNat = s.cfg.guard → s.arg0.toNat < s.cfg.lowThreshold →
    exec .batUpdate s = .next { s with batGood := false, res := 0, err := false, errCause := 0 }) ∧
  (∀ (s : State) (xs : List Word), s.cfg.guard ≤ 254 → s.batCnt = 0 → (∀ x ∈ xs, x.toNat < s.cfg.lowThreshold) →
    ∃ t, repeatCommand .batUpdate xs s = .next t ∧ t.batCnt.toNat = min xs.length s.cfg.guard ∧
      (xs ≠ [] → t.batGood = decide (xs.length ≤ s.cfg.guard) ∧
        t.res = if xs.length ≤ s.cfg.guard then 1 else 0))

/-- R160, its pseudocode: MAF_UPDATE is CMD word 3; the clamped sample goes to the slot at the cursor, the cursor
advances modulo C, and RES is the floor of the ring's sum after that write divided by C. -/
def Obligations.MafUpdateResult : Prop :=
  encode .mafUpdate = 0x00000003#32 ∧
  ∀ s : State, s.cfg.capacityOk = true → s.ring.length = s.cfg.capacity → s.cur.toNat < s.cfg.capacity →
    ∃ t, exec .mafUpdate s = .next t ∧
      t = { s with
        ring := s.ring.set s.cur.toNat (BitVec.ofNat 8 (min s.arg0.toNat 255)),
        cur := BitVec.ofNat 8 ((s.cur.toNat + 1) % s.cfg.capacity),
        res := BitVec.ofNat 32 ((t.ring.map BitVec.toNat).sum / s.cfg.capacity), err := false, errCause := 0 } ∧
      t.cur.toNat = (s.cur.toNat + 1) % s.cfg.capacity ∧ t.res.toNat ≤ 255 ∧
      (s.cfg.capacity = 1 → t.res.toNat = min s.arg0.toNat 255)

/-- R160 and R161: from the filter's reset state, after any non-empty run of samples RES is the floor of the mean of the
last C samples, each slot not yet written counting as 0. -/
def Obligations.MafReturnsMeanOfLastSamples : Prop :=
  ∀ (s : State) (xs : List Word), s.cfg.capacityOk = true → s.ring = List.replicate s.cfg.capacity 0 → s.cur = 0 →
    xs ≠ [] → ∃ t, repeatCommand .mafUpdate xs s = .next t ∧
      t.res.toNat =
        ((xs.drop (xs.length - s.cfg.capacity)).map (fun x => min x.toNat 255)).sum / s.cfg.capacity

/-- R162: if every sample since reset is at most 63, every result is at most 63. -/
def Obligations.MafStaysInSampleDomain : Prop :=
  ∀ (c : Config) (xs : List Word), c.buildable = true → (∀ x ∈ xs, x.toNat ≤ 63) → xs ≠ [] →
    ∃ t, repeatCommand .mafUpdate xs (State.resetWith c) = .next t ∧ t.res.toNat ≤ 63

/-! ### The animation -/

/-- R30: led(t, m) = t + 1 + 3*m, and the nine pairs name the nine LEDs once each. -/
def Obligations.LedNumbering : Prop :=
  (∀ t m : Fin 3, (ledIndex t m).val + 1 = t.val + 1 + 3 * m.val) ∧
  (∀ l : Fin 9, ∃ t m : Fin 3, ledIndex t m = l) ∧
  (∀ t m t' m' : Fin 3, ledIndex t m = ledIndex t' m' → t = t' ∧ m = m')

/-- R31: ACTIVE has exactly one bit set in each triad, that of the active member. -/
def Obligations.ActiveMaskHasOneLedPerTriad : Prop :=
  ∀ (s : State) (t m : Fin 3), s.activeMask.getLsbD (ledIndex t m).val = decide (m = s.act[t.val])

/-- R133: on an ADVANCE each triad's active phase advances; exactly when it would reach PERIOD it becomes 0, its LED's
cycle-complete bit is set, the next member in rotation order becomes active and that member's phase becomes 0. No other
phase of the triad changes. -/
def Obligations.AdvanceStepsEachTriad : Prop :=
  ∀ s : State, ∃ t, exec .advance s = .next t ∧ ∀ k m : Fin 3, m = s.act[k.val] →
    (∀ n : Fin 3, t.ledsCc.getLsbD (ledIndex k n).val =
      decide (n = m ∧ s.phase[(ledIndex k m).val].toNat + 1 = s.cfg.period)) ∧
    (if s.phase[(ledIndex k m).val].toNat + 1 = s.cfg.period then
      t.act[k.val] = m + 1 ∧ t.phase[(ledIndex k m).val] = 0 ∧ t.phase[(ledIndex k (m + 1)).val] = 0 ∧
        t.phase[(ledIndex k (m + 2)).val] = s.phase[(ledIndex k (m + 2)).val]
    else
      t.act[k.val] = m ∧ t.phase[(ledIndex k m).val] = s.phase[(ledIndex k m).val] + 1 ∧
        t.phase[(ledIndex k (m + 1)).val] = s.phase[(ledIndex k (m + 1)).val] ∧
        t.phase[(ledIndex k (m + 2)).val] = s.phase[(ledIndex k (m + 2)).val])

/-- R135, its results: ADVANCE is CMD word 2; it completes, the on/off bit of the LED active after the step is the duty
of its phase after the step at amplitude min(ARG0, 255), every other LED is off, RES holds the two masks, and nothing but
PHASE, ACT, LEDS_ON, LEDS_CC, RES and the status is written. -/
def Obligations.AdvanceReportsDutyOfActiveLeds : Prop :=
  encode .advance = 0x00000002#32 ∧
  ∀ s : State, ∃ t, exec .advance s = .next t ∧
    t = { s with act := t.act, phase := t.phase, ledsOn := t.ledsOn, ledsCc := t.ledsCc, res := t.res,
                 err := false, errCause := 0 } ∧
    t.res.toNat = t.ledsOn.toNat + 65536 * t.ledsCc.toNat ∧
    ∀ k n : Fin 3, t.ledsOn.getLsbD (ledIndex k n).val =
      (decide (n = t.act[k.val]) && duty s.cfg t.phase[(ledIndex k n).val].toNat (min s.arg0.toNat 255))

/-- R84, R135: an amplitude above 255 in ARG0 is the amplitude 255. -/
def Obligations.AdvanceClampsAmplitude : Prop :=
  ∀ s : State, 255 ≤ s.arg0.toNat →
    ∃ t, exec .advance (s.setArg0 255) = .next t ∧ exec .advance s = .next (t.setArg0 s.arg0)

/-- R131: the whole duty function, in unbounded numbers with its two explicit truncations and the exact floor
quotient by 255. -/
def Obligations.DutyFunction : Prop :=
  ∀ (c : Config) (p amp seg lb d pos a onLen T : Nat), c.buildable = true → p < c.period → amp ≤ 255 →
    seg = p / (c.period / c.segments) →
    lb = c.period * seg * recip c.segments / 65536 →
    d = (p + 2 ^ 32 - lb) % 2 ^ 32 →
    pos = d * recip c.subperiod / 65536 →
    a = c.sineLut.getD seg 0 * amp / 255 →
    onLen = a * c.subperiod / 256 →
    T = (lb + pos * c.subperiod % 2 ^ 32 + onLen) % 2 ^ 32 →
    duty c p amp = decide (p < T)

/-- R127: the multiply-and-shift equals the floor quotient by 255 for every product up to 65025, is 0 at amplitude 0 and
the sample itself at amplitude 255, and first fails at 65790. -/
def Obligations.AmplitudeScalingIsFloorQuotient : Prop :=
  (∀ x, x ≤ 65025 → scaleSample x = x / 255) ∧ (∀ v, v ≤ 255 → scaleSample (v * 0) = 0) ∧
  (∀ v, v ≤ 255 → scaleSample (v * 255) = v) ∧ (∀ v amp, v ≤ 255 → amp ≤ 255 → scaleSample (v * amp) ≤ v) ∧
  (∀ x, x < 65790 → scaleSample x = x / 255) ∧ scaleSample 65790 ≠ 65790 / 255

/-- R128: the on-length is below SUBPERIOD for every scaled sample. -/
def Obligations.OnLengthBelowSubperiod : Prop :=
  ∀ (c : Config) (a : Nat), 1 ≤ c.subperiod → a ≤ 255 →
    onLength c a = a * c.subperiod / 256 ∧ onLength c a ≤ c.subperiod - 1

/-- R120: SEGIDX[p] = p / WIN; it is non-decreasing, starts at 0, ends at SEGMENTS-1, and each index occurs for exactly
the WIN phases of its window. -/
def Obligations.SegmentIndexTable : Prop :=
  ∀ c : Config, c.buildable = true →
    (∀ p q, p ≤ q → q < c.period → c.segIdx p ≤ c.segIdx q) ∧ c.segIdx 0 = 0 ∧
    c.segIdx (c.period - 1) = c.segments - 1 ∧ (∀ p, p < c.period → c.segIdx p < c.segments) ∧
    (∀ p s, p < c.period → (c.segIdx p = s ↔ s * c.win ≤ p ∧ p < s * c.win + c.win))

/-- R132: in an exact configuration an LED is on exactly in the first on_len phases of each sub-window; amplitude 0 and
a zero sample keep it off, amplitude 255 uses the unscaled sample, and no sub-window is on throughout. TESTCFG is
exact. -/
def Obligations.ExactConfigurationDuty : Prop :=
  (∀ (c : Config), c.buildable = true →
    (∀ s, s < c.segments → rm (c.period * s) c.rcSeg = s * c.win) →
    (∀ d, d < c.win → rm d c.rcSub = d / c.subperiod) →
    ∀ p, p < c.period →
      (∀ amp, amp ≤ 255 → (duty c p amp = true ↔
        (p - c.segIdx p * c.win) % c.subperiod < c.sineLut.getD (c.segIdx p) 0 * amp / 255 * c.subperiod / 256)) ∧
      duty c p 0 = false ∧
      (duty c p 255 = true ↔
        (p - c.segIdx p * c.win) % c.subperiod < c.sineLut.getD (c.segIdx p) 0 * c.subperiod / 256) ∧
      (c.sineLut.getD (c.segIdx p) 0 = 0 → ∀ amp, amp ≤ 255 → duty c p amp = false) ∧
      (∀ amp, amp ≤ 255 → (p - c.segIdx p * c.win) % c.subperiod = c.subperiod - 1 → duty c p amp = false)) ∧
  (∀ s, s < Config.testcfg.segments →
    rm (Config.testcfg.period * s) Config.testcfg.rcSeg = s * Config.testcfg.win) ∧
  (∀ d, d < Config.testcfg.win → rm d Config.testcfg.rcSub = d / Config.testcfg.subperiod)

/-- R137: from every state of the invariant, over PERIOD consecutive ADVANCE commands, whatever their amplitudes, every
triad wraps exactly once and passes its phase to the next member, and over 3*PERIOD every triad is back where it
started. -/
def Obligations.AnimationIsPeriodic : Prop :=
  ∀ (s : State) (xs : List Word), s.Inv →
    (xs.length = s.cfg.period → ∃ t, repeatCommand .advance xs s = .next t ∧ ∀ k : Fin 3,
      (∃ n, (n < s.cfg.period ∧ ∃ u, repeatCommand .advance (xs.take n) s = .next u ∧ u.wraps k = true) ∧
        ∀ n', (n' < s.cfg.period ∧ ∃ u, repeatCommand .advance (xs.take n') s = .next u ∧ u.wraps k = true) →
          n' = n) ∧
      t.act[k.val] = s.act[k.val] + 1 ∧
      t.phase[(t.activeLed k).val] = s.phase[(s.activeLed k).val]) ∧
    (xs.length = 3 * s.cfg.period →
      ∃ t, repeatCommand .advance xs s = .next t ∧ t.act = s.act ∧ t.phase = s.phase)

/-! ### The reciprocal-multiply -/

/-- R101: recip(N) is the integer nearest to 65536/N, no tie occurs, and its range and examples are as listed. -/
def Obligations.RecipIsNearestInteger : Prop :=
  (∀ n : Nat, 1 ≤ n → n ≤ 65536 →
    2 * |(65536 : Int) - (n : Int) * (recip n : Int)| < (n : Int) ∧ recip n = (131072 + n) / (2 * n) ∧
    1 ≤ recip n ∧ recip n < 2 ^ 17 ∧ (2 ≤ n → recip n ≤ 32768)) ∧
  recip 1 = 65536 ∧ recip 2 = 32768 ∧ recip 3 = 21845 ∧ recip 7 = 9362 ∧ recip 10 = 6554 ∧ recip 20 = 3277 ∧
  recip 255 = 257 ∧ recip 65536 = 1

/-- R102: RM(x, r) is the exact product without its 16 low bits, and fits 32 bits. -/
def Obligations.RmIsExactAndBounded : Prop :=
  ∀ x r, x < 2 ^ 32 → r ≤ 65536 → rm x r = x * r / 65536 ∧ rm x r < 2 ^ 32

/-- R103: RM(x, recip(N)) is the quotient for a power of two, is within floor(x / 131072) + 1 of it for every N, and is
not corrected where it is below or above. -/
def Obligations.RmVersusQuotient : Prop :=
  (∀ x k, k ≤ 16 → recip (2 ^ k) = 2 ^ (16 - k) ∧ rm x (recip (2 ^ k)) = x / 2 ^ k) ∧
  (∀ x n, 1 ≤ n → n ≤ 65536 → x < 2 ^ 32 →
    rm x (recip n) ≤ x / n + (x / 131072 + 1) ∧ x / n ≤ rm x (recip n) + (x / 131072 + 1)) ∧
  rm 3 (recip 3) = 0 ∧ rm 7 (recip 7) = 0 ∧ rm 16389 (recip 10) = 1639 ∧ rm 16399 (recip 20) = 820

/-! ### What no command does -/

/-- Every command completes without error and clears ERR and ERRCAUSE (R25, R202). -/
def Obligations.EveryCommandCompletes : Prop :=
  ∀ (i : Instr) (s : State), ∃ t, exec i s = .next t ∧ t.err = false ∧ t.errCause = 0

/-- No command writes an operand register or the configuration; only ADVANCE writes ACT, PHASE, LEDS_ON and LEDS_CC; only
MAF_UPDATE writes RING and CUR; only BAT_UPDATE writes BATCNT and BAT_GOOD; NOP keeps RES (R22 to R35). -/
def Obligations.OnlyItsCommandWritesEachState : Prop :=
  ∀ (i : Instr) (s t : State), exec i s = .next t →
    t.cfg = s.cfg ∧ t.arg0 = s.arg0 ∧ t.arg1 = s.arg1 ∧ t.input = s.input ∧ t.response = s.response ∧
    (i ≠ .advance → t.act = s.act ∧ t.phase = s.phase ∧ t.ledsOn = s.ledsOn ∧ t.ledsCc = s.ledsCc) ∧
    (i ≠ .mafUpdate → t.ring = s.ring ∧ t.cur = s.cur) ∧
    (i ≠ .batUpdate → t.batCnt = s.batCnt ∧ t.batGood = s.batGood) ∧
    (i = .nop → t.res = s.res)

/-- No command reads ERR, ERRCAUSE or BAT_GOOD (R45); in particular BAT_GOOD gates no LED output (R27). -/
def Obligations.NoCommandReadsStatus : Prop :=
  ∀ (i : Instr) (s : State) (e g : Bool) (c : BitVec 2), ∃ t, exec i s = .next t ∧
    exec i { s with err := e, errCause := c, batGood := g } =
      .next { t with batGood := if i = .batUpdate then t.batGood else g }

/-- NOP, RMUL and SCALE are idempotent given unchanged ARG0 and ARG1 (R67). -/
def Obligations.StatelessCommandsAreIdempotent : Prop :=
  ∀ (i : Instr) (s : State), i = .nop ∨ i = .rmul ∨ i = .scale → ∃ t, exec i s = .next t ∧ exec i t = .next t

/-! ### The register map -/

/-- R38: each register stands at its own aligned offset of the window, and an aligned offset holds at most that one. -/
def Obligations.RegisterMapHasNoOverlap : Prop :=
  (∀ r : Reg, regAt (offsetOf r) = some r ∧ offsetOf r % 4 = 0 ∧ offsetOf r < 4096) ∧
  (∀ (o : Nat) (r : Reg), o % 4 = 0 → regAt o = some r → offsetOf r = o)

/-- R38: the fields of the registers that show mutable state, every other bit zero. -/
def Obligations.StateRegisterContents : Prop :=
  ∀ s : State, s.readReg .cmd = 0 ∧ s.readReg .arg0 = s.arg0 ∧ s.readReg .arg1 = s.arg1 ∧ s.readReg .res = s.res ∧
    (s.readReg .status).toNat = s.err.toNat + 2 * s.batGood.toNat + 16 * s.errCause.toNat ∧
    (s.readReg .leds).toNat = s.ledsOn.toNat + 65536 * s.ledsCc.toNat ∧
    (s.readReg .active).toNat =
      2 ^ (ledIndex 0 s.act[0]).val + 2 ^ (ledIndex 1 s.act[1]).val + 2 ^ (ledIndex 2 s.act[2]).val ∧
    (s.readReg .actIdx).toNat = s.act[0].val + 256 * s.act[1].val + 65536 * s.act[2].val ∧
    (s.readReg .mafCur).toNat = s.cur.toNat ∧ (s.readReg .batCnt).toNat = s.batCnt.toNat ∧
    (∀ l : Fin 9, (s.readReg (.phase l)).toNat = s.phase[l.val].toNat) ∧
    (∀ i : Fin 256, (s.readReg (.ring i)).toNat =
      if i.val < s.cfg.capacity then (s.ring.getD i.val 0).toNat else 0)

/-- R38: the registers that show the configuration hold its numbers, none of them cut off. -/
def Obligations.ConfigRegisterContents : Prop :=
  ∀ s : State, s.cfg.buildable = true →
    (s.readReg .cfgPeriod).toNat = s.cfg.period ∧ (s.readReg .cfgSegments).toNat = s.cfg.segments ∧
    (s.readReg .cfgSubperiod).toNat = s.cfg.subperiod ∧
    (s.readReg .cfgWin).toNat = s.cfg.period / s.cfg.segments ∧
    (s.readReg .cfgRcSeg).toNat = recip s.cfg.segments ∧ (s.readReg .cfgRcSub).toNat = recip s.cfg.subperiod ∧
    (s.readReg .cfgC).toNat = s.cfg.capacity ∧ 2 ^ (s.readReg .cfgLog2C).toNat = s.cfg.capacity ∧
    (s.readReg .cfgLowThreshold).toNat = s.cfg.lowThreshold ∧ (s.readReg .cfgGuard).toNat = s.cfg.guard ∧
    (s.readReg .cfgFloor).toNat = s.cfg.floor ∧ (s.readReg .cfgSlope).toNat = s.cfg.slope ∧
    (∀ t : Fin 3, (s.readReg (.cfgResetPhase t)).toNat = s.cfg.resetPhase[t.val]) ∧
    (∀ i : Fin 256, (s.readReg (.sine i)).toNat =
      if i.val < s.cfg.segments then s.cfg.sineLut.getD i.val 0 else 0)

/-! ### The bus port -/

/-- R80: a step at which the host's next access is a 32-bit write to CMD of a word that decodes to `i` is `exec` of `i`
on the state with that access taken from the port and answered. -/
def Obligations.StepRunsTheDecodedCommand : Prop :=
  ∀ (s : State) (w : Word) (rest : List Event) (i : Instr), s.cfg.buildable = true →
    s.input = .access { kind := .write w, addr := s.cfg.base + 0x000, bits := 32 } :: rest → decode w = .ok i →
    step s = exec i { s with input := rest, response := .written }

/-- R191, R201: a CMD write of any word but the six completes on the bus, with RES 0, ERR 1, ERRCAUSE 2 when a reserved
bit is set and 1 otherwise, and changes nothing else. -/
def Obligations.IllegalCommandChangesOnlyStatus : Prop :=
  ∀ (s : State) (w : Word) (rest : List Event), s.cfg.buildable = true →
    s.input = .access { kind := .write w, addr := s.cfg.base + 0x000, bits := 32 } :: rest → 6 ≤ w.toNat →
    step s = .next { s with
      input := rest, response := .written,
      res := 0, err := true, errCause := if w.toNat / 16 ≠ 0 then 2 else 1 }

/-- R62: an access of another width than 32 bits to an offset in the window ends with BusError(width), whatever its
offset and data, and changes no state of the block. -/
def Obligations.WrongWidthIsABusError : Prop :=
  ∀ (s : State) (a : Access) (rest : List Event), s.cfg.buildable = true → s.input = .access a :: rest →
    s.cfg.base ≤ a.addr → a.addr ≤ s.cfg.base + 0xFFF → a.bits ≠ 32 →
    step s = .next { s with input := rest, response := .error .width }

/-- R63: a 32-bit access at an offset that is no multiple of 4 ends with BusError(misaligned) and changes no state of
the block. -/
def Obligations.MisalignedAccessIsABusError : Prop :=
  ∀ (s : State) (a : Access) (rest : List Event), s.cfg.buildable = true → s.input = .access a :: rest →
    s.cfg.base ≤ a.addr → a.addr ≤ s.cfg.base + 0xFFF → a.bits = 32 → (a.addr - s.cfg.base) % 4 ≠ 0 →
    step s = .next { s with input := rest, response := .error .misaligned }

/-- R39, R64: an aligned 32-bit read returns the register at its offset, 0 where there is none, and changes no state of
the block. -/
def Obligations.ReadReturnsRegisterWithoutSideEffect : Prop :=
  ∀ (s : State) (o : Nat) (rest : List Event), s.cfg.buildable = true →
    s.input = .access { kind := .read, addr := s.cfg.base + o, bits := 32 } :: rest → o < 4096 → o % 4 = 0 →
    ∃ v, step s = .next { s with input := rest, response := .readData v } ∧
      (∀ r : Reg, offsetOf r = o → v = s.readReg r) ∧ ((∀ r : Reg, offsetOf r ≠ o) → v = 0)

/-- R40: a write to ARG0 or ARG1 stores the word and does nothing else, a write to CMD executes one command, and a write
to any other offset changes nothing. -/
def Obligations.OnlyThreeRegistersTakeAWrite : Prop :=
  ∀ (s : State) (o : Nat) (w : Word) (rest : List Event), s.cfg.buildable = true →
    s.input = .access { kind := .write w, addr := s.cfg.base + o, bits := 32 } :: rest → o < 4096 → o % 4 = 0 →
    (o = 0x000 → step s = execWord w { s with input := rest, response := .written }) ∧
    (o = 0x004 → step s = .next { s with input := rest, response := .written, arg0 := w }) ∧
    (o = 0x008 → step s = .next { s with input := rest, response := .written, arg1 := w }) ∧
    (0x00C ≤ o → step s = .next { s with input := rest, response := .written })

/-- U8, U14 (spec/93_implementation_defined.md): an access outside the window and a brown-out are refused by name, as
the spec asks of a model (log entry 10). -/
def Obligations.WhatDoesNotReachTheBlockIsRefused : Prop :=
  ∀ (s : State) (rest : List Event), s.cfg.buildable = true →
    (∀ a : Access, s.input = .access a :: rest → a.addr < s.cfg.base ∨ s.cfg.base + 0xFFF < a.addr →
      step s = .refused .outsideWindow) ∧
    (s.input = .brownOut :: rest → step s = .refused .brownOut)

/-- R7, R8: a step is refused as unbuildable exactly when the parameter set violates one of the conditions of R7. -/
def Obligations.UnbuildableConfigurationIsRefused : Prop :=
  ∀ s : State, step s = .refused .unbuildableConfig ↔
    ¬ ((1 ≤ s.cfg.period ∧ s.cfg.period ≤ 65536) ∧
      (1 ≤ s.cfg.segments ∧ s.cfg.segments ≤ 256 ∧ s.cfg.segments ∣ s.cfg.period) ∧
      (1 ≤ s.cfg.subperiod ∧ s.cfg.subperiod ∣ s.cfg.period / s.cfg.segments) ∧
      (s.cfg.sineLut.length = s.cfg.segments ∧ ∀ v ∈ s.cfg.sineLut, v ≤ 255) ∧
      (∃ k, k ≤ 8 ∧ s.cfg.capacity = 2 ^ k) ∧ s.cfg.lowThreshold ≤ 2 ^ 32 - 1 ∧ s.cfg.guard ≤ 254 ∧
      s.cfg.floor ≤ 255 ∧ s.cfg.slope ≤ 255 ∧ (∀ t : Fin 3, s.cfg.resetPhase[t.val] ≤ s.cfg.period - 1) ∧
      s.cfg.base % 4096 = 0)

/-- R44: between bus accesses nothing is in flight. That a step with nothing at the port answers the same state is the
model's choice (log entry 3). -/
def Obligations.NothingHappensWithoutAnAccess : Prop :=
  ∀ s : State, s.cfg.buildable = true → s.input = [] → step s = .next s

/-! ### Reset -/

/-- R43: every element of the state at the end of reset, for every parameter set. -/
def Obligations.ResetValues : Prop :=
  ∀ c : Config, c.buildable = true → ∃ s, s = State.resetWith c ∧ s.arg0 = 0 ∧ s.arg1 = 0 ∧ s.res = 0 ∧
    s.err = false ∧ s.errCause = 0 ∧ s.batGood = true ∧ s.ledsOn = 0 ∧ s.ledsCc = 0 ∧
    (∀ t : Fin 3, s.act[t.val] = 0) ∧ (∀ t : Fin 3, s.phase[t.val].toNat = c.resetPhase[t.val]) ∧
    (∀ l : Fin 9, 3 ≤ l.val → s.phase[l.val] = 0) ∧ s.ring.length = c.capacity ∧ (∀ v ∈ s.ring, v = 0) ∧
    s.cur = 0 ∧ s.batCnt = 0 ∧ s.cfg = c

/-- R230: a reset at any time gives the reset state of the same block, whatever the state was. That the port's remaining
events survive the reset and that the last response becomes idle is the model's choice (log entry 12, DESIGN CHOICE). -/
def Obligations.ResetEventGivesTheResetState : Prop :=
  ∀ (s : State) (rest : List Event), s.cfg.buildable = true → s.input = .reset :: rest →
    step s = .next { State.resetWith s.cfg with input := rest }

/-- The invariant of R42 holds in the reset state of every block that can be built, and in the machine's own, whose
parameter set is the model's choice (log entry 1). -/
def Obligations.ResetStateHasTheInvariant : Prop :=
  (∀ c : Config, c.buildable = true → (State.resetWith c).Inv) ∧ State.reset.Inv

/-! ### Runs -/

/-- R42: every step from every state of the invariant leads to a state of the invariant. -/
def Obligations.StepKeepsTheInvariant : Prop :=
  ∀ s t : State, s.Inv → step s = .next t → t.Inv

/-- R244: nothing writes the configuration or the tables it holds. -/
def Obligations.NothingWritesTheConfiguration : Prop :=
  ∀ s t : State, step s = .next t → t.cfg = s.cfg

/-- R22, R23: an operand register keeps its value over every step but a reset and a 32-bit write to it. -/
def Obligations.OperandsKeepTheirValues : Prop :=
  ∀ s t : State, step s = .next t →
    ((∀ rest, s.input ≠ .reset :: rest) →
      ((∀ w rest, s.input ≠ .access { kind := .write w, addr := s.cfg.base + 0x004, bits := 32 } :: rest) →
        t.arg0 = s.arg0) ∧
      ((∀ w rest, s.input ≠ .access { kind := .write w, addr := s.cfg.base + 0x008, bits := 32 } :: rest) →
        t.arg1 = s.arg1))

/-- R202, R214: a block that can be built serves any sequence of resets and accesses to its window, of any width,
alignment and data, without ever faulting or being refused. -/
def Obligations.AcceptedEventsNeverStopTheBlock : Prop :=
  ∀ (n : Nat) (s : State), s.cfg.buildable = true →
    (∀ e ∈ s.input, e = .reset ∨
      ∃ a : Access, e = .access a ∧ s.cfg.base ≤ a.addr ∧ a.addr ≤ s.cfg.base + 0xFFF) → SafeFor n s

/-- R70: a read of ARG0 returns the word of the last earlier write to it, whatever other accesses to the window, CMD
writes among them, come between. -/
def Obligations.ArgumentReadReturnsLastWrite : Prop :=
  ∀ (s : State) (v : Word) (es : List Event), s.cfg.buildable = true →
    s.input = wr s.cfg .arg0 v :: (es ++ [rd s.cfg .arg0]) →
    (∀ e ∈ es, ∃ a : Access, e = .access a ∧ s.cfg.base ≤ a.addr ∧ a.addr ≤ s.cfg.base + 0xFFF ∧
      ¬ (a.addr = s.cfg.base + 0x004 ∧ a.bits = 32 ∧ ∃ u, a.kind = .write u)) →
    ∃ t : State, Sys2Proof.core.run (es.length + 2) s = .next t ∧ t.response = .readData v

/-- R86, R89: the sequence `rmul x, r ; rd RES` returns bits 47..16 of `x * r` from every state, and leaves the operands
in ARG0 and ARG1. -/
def Obligations.RmulSequenceReadsItsProduct : Prop :=
  ∀ (s : State) (x r : Word), s.cfg.buildable = true →
    s.input = scriptRmul s.cfg x r ++ [rd s.cfg .res] →
    ∃ t : State, Sys2Proof.core.run 4 s = .next t ∧
      t.response = .readData (BitVec.ofNat 32 (x.toNat * r.toNat / 65536)) ∧ t.arg0 = x ∧ t.arg1 = r ∧ t.input = []

/-! ### Host programs -/

/-- R240, U1: a host program of resets and accesses to the window, in front of a block that can be built, ends with a
host fault exactly when it is not serialized: when some sequence still takes part after another one has written behind
its own writes. That the program says which accesses are one sequence is the model's choice (log entry 11). -/
def Obligations.HostFaultsExactlyWhenNotSerialized : Prop :=
  ∀ (s : State) (tr : List HostAccess), s.cfg.buildable = true →
    (∀ x ∈ tr, x.event = .reset ∨
      ∃ a : Access, x.event = .access a ∧ s.cfg.base ≤ a.addr ∧ a.addr ≤ s.cfg.base + 0xFFF) →
    (runHost tr { block := s, monitor := .start } = .fault .interleavedSequences ↔ ¬ Serialized s.cfg tr)

/-- R72, R240: a serialized host program completes, and the block is then where the same events at its port lead it.
That the events behind a reset are still served is the model's choice (log entry 12, DESIGN CHOICE), and so are the
numbers by which the program says which accesses are one sequence (log entry 11, DESIGN CHOICE). -/
def Obligations.SerializedProgramRunsAsTheBlock : Prop :=
  ∀ (s : State) (tr : List HostAccess), s.cfg.buildable = true → s.input = [] →
    (∀ x ∈ tr, x.event = .reset ∨
      ∃ a : Access, x.event = .access a ∧ s.cfg.base ≤ a.addr ∧ a.addr ≤ s.cfg.base + 0xFFF) →
    Serialized s.cfg tr →
    ∃ h : HostState, runHost tr { block := s, monitor := .start } = .next h ∧
      Sys2Proof.core.run tr.length (s.setInput (tr.map (·.event))) = .next h.block

/-- R240, R242: where no host fault is raised, a command finds in ARG0 and ARG1 what its own sequence wrote there last,
whatever else reached the block in between, short of a reset. It rests on the model's choices of log entry 11 (DESIGN
CHOICE): the program numbers its sequences, and an operand or CMD write without a number counts as a sequence of its own,
so that such a write to the register in between makes the CMD write a host fault. -/
def Obligations.OperandsSurviveUntilTheCommand : Prop :=
  ∀ (h h' g : HostState) (q : Nat) (v w : Word) (mid : List HostAccess),
    (∀ x ∈ mid, x.event ≠ .reset) →
    hostStep { sequence := some q, event := wr h.block.cfg .cmd w } h' = .next g →
    (runHost ({ sequence := some q, event := wr h.block.cfg .arg0 v } :: mid) h = .next h' →
      (∀ x ∈ mid, x.sequence = some q → ∀ u, x.event ≠ wr h.block.cfg .arg0 u) → h'.block.arg0 = v) ∧
    (runHost ({ sequence := some q, event := wr h.block.cfg .arg1 v } :: mid) h = .next h' →
      (∀ x ∈ mid, x.sequence = some q → ∀ u, x.event ≠ wr h.block.cfg .arg1 u) → h'.block.arg1 = v)

/-- R240, R243: where no host fault is raised, a sequence reads in RES the result of its own command, whatever else
reached the block in between, short of a reset. It rests on the model's choices of log entry 11 (DESIGN CHOICE): the
program numbers its sequences, and a CMD write without a number counts as a sequence of its own, so that one in between
makes the read a host fault. -/
def Obligations.ResultSurvivesUntilItsRead : Prop :=
  ∀ (h h₁ h₂ g : HostState) (q : Nat) (w : Word) (mid : List HostAccess),
    hostStep { sequence := some q, event := wr h.block.cfg .cmd w } h = .next h₁ →
    runHost mid h₁ = .next h₂ →
    (∀ x ∈ mid, x.event ≠ .reset ∧ (x.sequence = some q → ∀ u, x.event ≠ wr h.block.cfg .cmd u)) →
    hostStep { sequence := some q, event := rd h.block.cfg .res } h₂ = .next g →
    g.block.response = .readData h₁.block.res

/-- R86, R240: command sequences one after another, each with its own number, are serialized. The numbers are the model's
choice (log entry 11, DESIGN CHOICE). -/
def Obligations.SequencesInTurnAreSerialized : Prop :=
  ∀ (c : Config) (qs : List CommandSequence), (qs.map (·.number)).Nodup →
    Serialized c (qs.flatMap (CommandSequence.trace c))
end

