-- ==== Sys2Proof/Laws/State.lean ====
section
/-! SUPPORT. What each named update of the state does to each field, one lemma per field per update. -/

namespace Sys2Proof.Machine

@[simp] theorem State.setArg0_cfg (s : State) (v : Word) : (s.setArg0 v).cfg = s.cfg := rfl
@[simp] theorem State.setArg0_arg0 (s : State) (v : Word) : (s.setArg0 v).arg0 = v := rfl
@[simp] theorem State.setArg0_arg1 (s : State) (v : Word) : (s.setArg0 v).arg1 = s.arg1 := rfl
@[simp] theorem State.setArg0_res (s : State) (v : Word) : (s.setArg0 v).res = s.res := rfl
@[simp] theorem State.setArg0_err (s : State) (v : Word) : (s.setArg0 v).err = s.err := rfl
@[simp] theorem State.setArg0_errCause (s : State) (v : Word) : (s.setArg0 v).errCause = s.errCause := rfl
@[simp] theorem State.setArg0_batGood (s : State) (v : Word) : (s.setArg0 v).batGood = s.batGood := rfl
@[simp] theorem State.setArg0_ledsOn (s : State) (v : Word) : (s.setArg0 v).ledsOn = s.ledsOn := rfl
@[simp] theorem State.setArg0_ledsCc (s : State) (v : Word) : (s.setArg0 v).ledsCc = s.ledsCc := rfl
@[simp] theorem State.setArg0_act (s : State) (v : Word) : (s.setArg0 v).act = s.act := rfl
@[simp] theorem State.setArg0_phase (s : State) (v : Word) : (s.setArg0 v).phase = s.phase := rfl
@[simp] theorem State.setArg0_ring (s : State) (v : Word) : (s.setArg0 v).ring = s.ring := rfl
@[simp] theorem State.setArg0_cur (s : State) (v : Word) : (s.setArg0 v).cur = s.cur := rfl
@[simp] theorem State.setArg0_batCnt (s : State) (v : Word) : (s.setArg0 v).batCnt = s.batCnt := rfl
@[simp] theorem State.setArg0_input (s : State) (v : Word) : (s.setArg0 v).input = s.input := rfl
@[simp] theorem State.setArg0_response (s : State) (v : Word) : (s.setArg0 v).response = s.response := rfl

@[simp] theorem State.setArg1_cfg (s : State) (v : Word) : (s.setArg1 v).cfg = s.cfg := rfl
@[simp] theorem State.setArg1_arg0 (s : State) (v : Word) : (s.setArg1 v).arg0 = s.arg0 := rfl
@[simp] theorem State.setArg1_arg1 (s : State) (v : Word) : (s.setArg1 v).arg1 = v := rfl
@[simp] theorem State.setArg1_res (s : State) (v : Word) : (s.setArg1 v).res = s.res := rfl
@[simp] theorem State.setArg1_err (s : State) (v : Word) : (s.setArg1 v).err = s.err := rfl
@[simp] theorem State.setArg1_errCause (s : State) (v : Word) : (s.setArg1 v).errCause = s.errCause := rfl
@[simp] theorem State.setArg1_batGood (s : State) (v : Word) : (s.setArg1 v).batGood = s.batGood := rfl
@[simp] theorem State.setArg1_ledsOn (s : State) (v : Word) : (s.setArg1 v).ledsOn = s.ledsOn := rfl
@[simp] theorem State.setArg1_ledsCc (s : State) (v : Word) : (s.setArg1 v).ledsCc = s.ledsCc := rfl
@[simp] theorem State.setArg1_act (s : State) (v : Word) : (s.setArg1 v).act = s.act := rfl
@[simp] theorem State.setArg1_phase (s : State) (v : Word) : (s.setArg1 v).phase = s.phase := rfl
@[simp] theorem State.setArg1_ring (s : State) (v : Word) : (s.setArg1 v).ring = s.ring := rfl
@[simp] theorem State.setArg1_cur (s : State) (v : Word) : (s.setArg1 v).cur = s.cur := rfl
@[simp] theorem State.setArg1_batCnt (s : State) (v : Word) : (s.setArg1 v).batCnt = s.batCnt := rfl
@[simp] theorem State.setArg1_input (s : State) (v : Word) : (s.setArg1 v).input = s.input := rfl
@[simp] theorem State.setArg1_response (s : State) (v : Word) : (s.setArg1 v).response = s.response := rfl

@[simp] theorem State.setRes_cfg (s : State) (v : Word) : (s.setRes v).cfg = s.cfg := rfl
@[simp] theorem State.setRes_arg0 (s : State) (v : Word) : (s.setRes v).arg0 = s.arg0 := rfl
@[simp] theorem State.setRes_arg1 (s : State) (v : Word) : (s.setRes v).arg1 = s.arg1 := rfl
@[simp] theorem State.setRes_res (s : State) (v : Word) : (s.setRes v).res = v := rfl
@[simp] theorem State.setRes_err (s : State) (v : Word) : (s.setRes v).err = s.err := rfl
@[simp] theorem State.setRes_errCause (s : State) (v : Word) : (s.setRes v).errCause = s.errCause := rfl
@[simp] theorem State.setRes_batGood (s : State) (v : Word) : (s.setRes v).batGood = s.batGood := rfl
@[simp] theorem State.setRes_ledsOn (s : State) (v : Word) : (s.setRes v).ledsOn = s.ledsOn := rfl
@[simp] theorem State.setRes_ledsCc (s : State) (v : Word) : (s.setRes v).ledsCc = s.ledsCc := rfl
@[simp] theorem State.setRes_act (s : State) (v : Word) : (s.setRes v).act = s.act := rfl
@[simp] theorem State.setRes_phase (s : State) (v : Word) : (s.setRes v).phase = s.phase := rfl
@[simp] theorem State.setRes_ring (s : State) (v : Word) : (s.setRes v).ring = s.ring := rfl
@[simp] theorem State.setRes_cur (s : State) (v : Word) : (s.setRes v).cur = s.cur := rfl
@[simp] theorem State.setRes_batCnt (s : State) (v : Word) : (s.setRes v).batCnt = s.batCnt := rfl
@[simp] theorem State.setRes_input (s : State) (v : Word) : (s.setRes v).input = s.input := rfl
@[simp] theorem State.setRes_response (s : State) (v : Word) : (s.setRes v).response = s.response := rfl

@[simp] theorem State.setStatus_cfg (s : State) (e : Bool) (c : BitVec 2) : (s.setStatus e c).cfg = s.cfg := rfl
@[simp] theorem State.setStatus_arg0 (s : State) (e : Bool) (c : BitVec 2) : (s.setStatus e c).arg0 = s.arg0 := rfl
@[simp] theorem State.setStatus_arg1 (s : State) (e : Bool) (c : BitVec 2) : (s.setStatus e c).arg1 = s.arg1 := rfl
@[simp] theorem State.setStatus_res (s : State) (e : Bool) (c : BitVec 2) : (s.setStatus e c).res = s.res := rfl
@[simp] theorem State.setStatus_err (s : State) (e : Bool) (c : BitVec 2) : (s.setStatus e c).err = e := rfl
@[simp] theorem State.setStatus_errCause (s : State) (e : Bool) (c : BitVec 2) : (s.setStatus e c).errCause = c := rfl
@[simp] theorem State.setStatus_batGood (s : State) (e : Bool) (c : BitVec 2) : (s.setStatus e c).batGood = s.batGood := rfl
@[simp] theorem State.setStatus_ledsOn (s : State) (e : Bool) (c : BitVec 2) : (s.setStatus e c).ledsOn = s.ledsOn := rfl
@[simp] theorem State.setStatus_ledsCc (s : State) (e : Bool) (c : BitVec 2) : (s.setStatus e c).ledsCc = s.ledsCc := rfl
@[simp] theorem State.setStatus_act (s : State) (e : Bool) (c : BitVec 2) : (s.setStatus e c).act = s.act := rfl
@[simp] theorem State.setStatus_phase (s : State) (e : Bool) (c : BitVec 2) : (s.setStatus e c).phase = s.phase := rfl
@[simp] theorem State.setStatus_ring (s : State) (e : Bool) (c : BitVec 2) : (s.setStatus e c).ring = s.ring := rfl
@[simp] theorem State.setStatus_cur (s : State) (e : Bool) (c : BitVec 2) : (s.setStatus e c).cur = s.cur := rfl
@[simp] theorem State.setStatus_batCnt (s : State) (e : Bool) (c : BitVec 2) : (s.setStatus e c).batCnt = s.batCnt := rfl
@[simp] theorem State.setStatus_input (s : State) (e : Bool) (c : BitVec 2) : (s.setStatus e c).input = s.input := rfl
@[simp] theorem State.setStatus_response (s : State) (e : Bool) (c : BitVec 2) : (s.setStatus e c).response = s.response := rfl

@[simp] theorem State.setLeds_cfg (s : State) (on cc : LedMask) : (s.setLeds on cc).cfg = s.cfg := rfl
@[simp] theorem State.setLeds_arg0 (s : State) (on cc : LedMask) : (s.setLeds on cc).arg0 = s.arg0 := rfl
@[simp] theorem State.setLeds_arg1 (s : State) (on cc : LedMask) : (s.setLeds on cc).arg1 = s.arg1 := rfl
@[simp] theorem State.setLeds_res (s : State) (on cc : LedMask) : (s.setLeds on cc).res = s.res := rfl
@[simp] theorem State.setLeds_err (s : State) (on cc : LedMask) : (s.setLeds on cc).err = s.err := rfl
@[simp] theorem State.setLeds_errCause (s : State) (on cc : LedMask) : (s.setLeds on cc).errCause = s.errCause := rfl
@[simp] theorem State.setLeds_batGood (s : State) (on cc : LedMask) : (s.setLeds on cc).batGood = s.batGood := rfl
@[simp] theorem State.setLeds_ledsOn (s : State) (on cc : LedMask) : (s.setLeds on cc).ledsOn = on := rfl
@[simp] theorem State.setLeds_ledsCc (s : State) (on cc : LedMask) : (s.setLeds on cc).ledsCc = cc := rfl
@[simp] theorem State.setLeds_act (s : State) (on cc : LedMask) : (s.setLeds on cc).act = s.act := rfl
@[simp] theorem State.setLeds_phase (s : State) (on cc : LedMask) : (s.setLeds on cc).phase = s.phase := rfl
@[simp] theorem State.setLeds_ring (s : State) (on cc : LedMask) : (s.setLeds on cc).ring = s.ring := rfl
@[simp] theorem State.setLeds_cur (s : State) (on cc : LedMask) : (s.setLeds on cc).cur = s.cur := rfl
@[simp] theorem State.setLeds_batCnt (s : State) (on cc : LedMask) : (s.setLeds on cc).batCnt = s.batCnt := rfl
@[simp] theorem State.setLeds_input (s : State) (on cc : LedMask) : (s.setLeds on cc).input = s.input := rfl
@[simp] theorem State.setLeds_response (s : State) (on cc : LedMask) : (s.setLeds on cc).response = s.response := rfl

@[simp] theorem State.setAct_cfg (s : State) (t m : Fin 3) : (s.setAct t m).cfg = s.cfg := rfl
@[simp] theorem State.setAct_arg0 (s : State) (t m : Fin 3) : (s.setAct t m).arg0 = s.arg0 := rfl
@[simp] theorem State.setAct_arg1 (s : State) (t m : Fin 3) : (s.setAct t m).arg1 = s.arg1 := rfl
@[simp] theorem State.setAct_res (s : State) (t m : Fin 3) : (s.setAct t m).res = s.res := rfl
@[simp] theorem State.setAct_err (s : State) (t m : Fin 3) : (s.setAct t m).err = s.err := rfl
@[simp] theorem State.setAct_errCause (s : State) (t m : Fin 3) : (s.setAct t m).errCause = s.errCause := rfl
@[simp] theorem State.setAct_batGood (s : State) (t m : Fin 3) : (s.setAct t m).batGood = s.batGood := rfl
@[simp] theorem State.setAct_ledsOn (s : State) (t m : Fin 3) : (s.setAct t m).ledsOn = s.ledsOn := rfl
@[simp] theorem State.setAct_ledsCc (s : State) (t m : Fin 3) : (s.setAct t m).ledsCc = s.ledsCc := rfl
@[simp] theorem State.setAct_act (s : State) (t m : Fin 3) : (s.setAct t m).act = s.act.set t.val m := rfl
@[simp] theorem State.setAct_phase (s : State) (t m : Fin 3) : (s.setAct t m).phase = s.phase := rfl
@[simp] theorem State.setAct_ring (s : State) (t m : Fin 3) : (s.setAct t m).ring = s.ring := rfl
@[simp] theorem State.setAct_cur (s : State) (t m : Fin 3) : (s.setAct t m).cur = s.cur := rfl
@[simp] theorem State.setAct_batCnt (s : State) (t m : Fin 3) : (s.setAct t m).batCnt = s.batCnt := rfl
@[simp] theorem State.setAct_input (s : State) (t m : Fin 3) : (s.setAct t m).input = s.input := rfl
@[simp] theorem State.setAct_response (s : State) (t m : Fin 3) : (s.setAct t m).response = s.response := rfl

@[simp] theorem State.setPhase_cfg (s : State) (l : Fin 9) (p : Phase) : (s.setPhase l p).cfg = s.cfg := rfl
@[simp] theorem State.setPhase_arg0 (s : State) (l : Fin 9) (p : Phase) : (s.setPhase l p).arg0 = s.arg0 := rfl
@[simp] theorem State.setPhase_arg1 (s : State) (l : Fin 9) (p : Phase) : (s.setPhase l p).arg1 = s.arg1 := rfl
@[simp] theorem State.setPhase_res (s : State) (l : Fin 9) (p : Phase) : (s.setPhase l p).res = s.res := rfl
@[simp] theorem State.setPhase_err (s : State) (l : Fin 9) (p : Phase) : (s.setPhase l p).err = s.err := rfl
@[simp] theorem State.setPhase_errCause (s : State) (l : Fin 9) (p : Phase) : (s.setPhase l p).errCause = s.errCause := rfl
@[simp] theorem State.setPhase_batGood (s : State) (l : Fin 9) (p : Phase) : (s.setPhase l p).batGood = s.batGood := rfl
@[simp] theorem State.setPhase_ledsOn (s : State) (l : Fin 9) (p : Phase) : (s.setPhase l p).ledsOn = s.ledsOn := rfl
@[simp] theorem State.setPhase_ledsCc (s : State) (l : Fin 9) (p : Phase) : (s.setPhase l p).ledsCc = s.ledsCc := rfl
@[simp] theorem State.setPhase_act (s : State) (l : Fin 9) (p : Phase) : (s.setPhase l p).act = s.act := rfl
@[simp] theorem State.setPhase_phase (s : State) (l : Fin 9) (p : Phase) : (s.setPhase l p).phase = s.phase.set l.val p := rfl
@[simp] theorem State.setPhase_ring (s : State) (l : Fin 9) (p : Phase) : (s.setPhase l p).ring = s.ring := rfl
@[simp] theorem State.setPhase_cur (s : State) (l : Fin 9) (p : Phase) : (s.setPhase l p).cur = s.cur := rfl
@[simp] theorem State.setPhase_batCnt (s : State) (l : Fin 9) (p : Phase) : (s.setPhase l p).batCnt = s.batCnt := rfl
@[simp] theorem State.setPhase_input (s : State) (l : Fin 9) (p : Phase) : (s.setPhase l p).input = s.input := rfl
@[simp] theorem State.setPhase_response (s : State) (l : Fin 9) (p : Phase) : (s.setPhase l p).response = s.response := rfl

@[simp] theorem State.setRing_cfg (s : State) (i : Nat) (v : Byte) : (s.setRing i v).cfg = s.cfg := rfl
@[simp] theorem State.setRing_arg0 (s : State) (i : Nat) (v : Byte) : (s.setRing i v).arg0 = s.arg0 := rfl
@[simp] theorem State.setRing_arg1 (s : State) (i : Nat) (v : Byte) : (s.setRing i v).arg1 = s.arg1 := rfl
@[simp] theorem State.setRing_res (s : State) (i : Nat) (v : Byte) : (s.setRing i v).res = s.res := rfl
@[simp] theorem State.setRing_err (s : State) (i : Nat) (v : Byte) : (s.setRing i v).err = s.err := rfl
@[simp] theorem State.setRing_errCause (s : State) (i : Nat) (v : Byte) : (s.setRing i v).errCause = s.errCause := rfl
@[simp] theorem State.setRing_batGood (s : State) (i : Nat) (v : Byte) : (s.setRing i v).batGood = s.batGood := rfl
@[simp] theorem State.setRing_ledsOn (s : State) (i : Nat) (v : Byte) : (s.setRing i v).ledsOn = s.ledsOn := rfl
@[simp] theorem State.setRing_ledsCc (s : State) (i : Nat) (v : Byte) : (s.setRing i v).ledsCc = s.ledsCc := rfl
@[simp] theorem State.setRing_act (s : State) (i : Nat) (v : Byte) : (s.setRing i v).act = s.act := rfl
@[simp] theorem State.setRing_phase (s : State) (i : Nat) (v : Byte) : (s.setRing i v).phase = s.phase := rfl
@[simp] theorem State.setRing_ring (s : State) (i : Nat) (v : Byte) : (s.setRing i v).ring = s.ring.set i v := rfl
@[simp] theorem State.setRing_cur (s : State) (i : Nat) (v : Byte) : (s.setRing i v).cur = s.cur := rfl
@[simp] theorem State.setRing_batCnt (s : State) (i : Nat) (v : Byte) : (s.setRing i v).batCnt = s.batCnt := rfl
@[simp] theorem State.setRing_input (s : State) (i : Nat) (v : Byte) : (s.setRing i v).input = s.input := rfl
@[simp] theorem State.setRing_response (s : State) (i : Nat) (v : Byte) : (s.setRing i v).response = s.response := rfl

@[simp] theorem State.setCur_cfg (s : State) (v : Byte) : (s.setCur v).cfg = s.cfg := rfl
@[simp] theorem State.setCur_arg0 (s : State) (v : Byte) : (s.setCur v).arg0 = s.arg0 := rfl
@[simp] theorem State.setCur_arg1 (s : State) (v : Byte) : (s.setCur v).arg1 = s.arg1 := rfl
@[simp] theorem State.setCur_res (s : State) (v : Byte) : (s.setCur v).res = s.res := rfl
@[simp] theorem State.setCur_err (s : State) (v : Byte) : (s.setCur v).err = s.err := rfl
@[simp] theorem State.setCur_errCause (s : State) (v : Byte) : (s.setCur v).errCause = s.errCause := rfl
@[simp] theorem State.setCur_batGood (s : State) (v : Byte) : (s.setCur v).batGood = s.batGood := rfl
@[simp] theorem State.setCur_ledsOn (s : State) (v : Byte) : (s.setCur v).ledsOn = s.ledsOn := rfl
@[simp] theorem State.setCur_ledsCc (s : State) (v : Byte) : (s.setCur v).ledsCc = s.ledsCc := rfl
@[simp] theorem State.setCur_act (s : State) (v : Byte) : (s.setCur v).act = s.act := rfl
@[simp] theorem State.setCur_phase (s : State) (v : Byte) : (s.setCur v).phase = s.phase := rfl
@[simp] theorem State.setCur_ring (s : State) (v : Byte) : (s.setCur v).ring = s.ring := rfl
@[simp] theorem State.setCur_cur (s : State) (v : Byte) : (s.setCur v).cur = v := rfl
@[simp] theorem State.setCur_batCnt (s : State) (v : Byte) : (s.setCur v).batCnt = s.batCnt := rfl
@[simp] theorem State.setCur_input (s : State) (v : Byte) : (s.setCur v).input = s.input := rfl
@[simp] theorem State.setCur_response (s : State) (v : Byte) : (s.setCur v).response = s.response := rfl

@[simp] theorem State.setBattery_cfg (s : State) (n : Byte) (good : Bool) : (s.setBattery n good).cfg = s.cfg := rfl
@[simp] theorem State.setBattery_arg0 (s : State) (n : Byte) (good : Bool) : (s.setBattery n good).arg0 = s.arg0 := rfl
@[simp] theorem State.setBattery_arg1 (s : State) (n : Byte) (good : Bool) : (s.setBattery n good).arg1 = s.arg1 := rfl
@[simp] theorem State.setBattery_res (s : State) (n : Byte) (good : Bool) : (s.setBattery n good).res = s.res := rfl
@[simp] theorem State.setBattery_err (s : State) (n : Byte) (good : Bool) : (s.setBattery n good).err = s.err := rfl
@[simp] theorem State.setBattery_errCause (s : State) (n : Byte) (good : Bool) : (s.setBattery n good).errCause = s.errCause := rfl
@[simp] theorem State.setBattery_batGood (s : State) (n : Byte) (good : Bool) : (s.setBattery n good).batGood = good := rfl
@[simp] theorem State.setBattery_ledsOn (s : State) (n : Byte) (good : Bool) : (s.setBattery n good).ledsOn = s.ledsOn := rfl
@[simp] theorem State.setBattery_ledsCc (s : State) (n : Byte) (good : Bool) : (s.setBattery n good).ledsCc = s.ledsCc := rfl
@[simp] theorem State.setBattery_act (s : State) (n : Byte) (good : Bool) : (s.setBattery n good).act = s.act := rfl
@[simp] theorem State.setBattery_phase (s : State) (n : Byte) (good : Bool) : (s.setBattery n good).phase = s.phase := rfl
@[simp] theorem State.setBattery_ring (s : State) (n : Byte) (good : Bool) : (s.setBattery n good).ring = s.ring := rfl
@[simp] theorem State.setBattery_cur (s : State) (n : Byte) (good : Bool) : (s.setBattery n good).cur = s.cur := rfl
@[simp] theorem State.setBattery_batCnt (s : State) (n : Byte) (good : Bool) : (s.setBattery n good).batCnt = n := rfl
@[simp] theorem State.setBattery_input (s : State) (n : Byte) (good : Bool) : (s.setBattery n good).input = s.input := rfl
@[simp] theorem State.setBattery_response (s : State) (n : Byte) (good : Bool) : (s.setBattery n good).response = s.response := rfl

@[simp] theorem State.respond_cfg (s : State) (r : Response) : (s.respond r).cfg = s.cfg := rfl
@[simp] theorem State.respond_arg0 (s : State) (r : Response) : (s.respond r).arg0 = s.arg0 := rfl
@[simp] theorem State.respond_arg1 (s : State) (r : Response) : (s.respond r).arg1 = s.arg1 := rfl
@[simp] theorem State.respond_res (s : State) (r : Response) : (s.respond r).res = s.res := rfl
@[simp] theorem State.respond_err (s : State) (r : Response) : (s.respond r).err = s.err := rfl
@[simp] theorem State.respond_errCause (s : State) (r : Response) : (s.respond r).errCause = s.errCause := rfl
@[simp] theorem State.respond_batGood (s : State) (r : Response) : (s.respond r).batGood = s.batGood := rfl
@[simp] theorem State.respond_ledsOn (s : State) (r : Response) : (s.respond r).ledsOn = s.ledsOn := rfl
@[simp] theorem State.respond_ledsCc (s : State) (r : Response) : (s.respond r).ledsCc = s.ledsCc := rfl
@[simp] theorem State.respond_act (s : State) (r : Response) : (s.respond r).act = s.act := rfl
@[simp] theorem State.respond_phase (s : State) (r : Response) : (s.respond r).phase = s.phase := rfl
@[simp] theorem State.respond_ring (s : State) (r : Response) : (s.respond r).ring = s.ring := rfl
@[simp] theorem State.respond_cur (s : State) (r : Response) : (s.respond r).cur = s.cur := rfl
@[simp] theorem State.respond_batCnt (s : State) (r : Response) : (s.respond r).batCnt = s.batCnt := rfl
@[simp] theorem State.respond_input (s : State) (r : Response) : (s.respond r).input = s.input := rfl
@[simp] theorem State.respond_response (s : State) (r : Response) : (s.respond r).response = r := rfl

@[simp] theorem State.setInput_cfg (s : State) (es : List Event) : (s.setInput es).cfg = s.cfg := rfl
@[simp] theorem State.setInput_arg0 (s : State) (es : List Event) : (s.setInput es).arg0 = s.arg0 := rfl
@[simp] theorem State.setInput_arg1 (s : State) (es : List Event) : (s.setInput es).arg1 = s.arg1 := rfl
@[simp] theorem State.setInput_res (s : State) (es : List Event) : (s.setInput es).res = s.res := rfl
@[simp] theorem State.setInput_err (s : State) (es : List Event) : (s.setInput es).err = s.err := rfl
@[simp] theorem State.setInput_errCause (s : State) (es : List Event) : (s.setInput es).errCause = s.errCause := rfl
@[simp] theorem State.setInput_batGood (s : State) (es : List Event) : (s.setInput es).batGood = s.batGood := rfl
@[simp] theorem State.setInput_ledsOn (s : State) (es : List Event) : (s.setInput es).ledsOn = s.ledsOn := rfl
@[simp] theorem State.setInput_ledsCc (s : State) (es : List Event) : (s.setInput es).ledsCc = s.ledsCc := rfl
@[simp] theorem State.setInput_act (s : State) (es : List Event) : (s.setInput es).act = s.act := rfl
@[simp] theorem State.setInput_phase (s : State) (es : List Event) : (s.setInput es).phase = s.phase := rfl
@[simp] theorem State.setInput_ring (s : State) (es : List Event) : (s.setInput es).ring = s.ring := rfl
@[simp] theorem State.setInput_cur (s : State) (es : List Event) : (s.setInput es).cur = s.cur := rfl
@[simp] theorem State.setInput_batCnt (s : State) (es : List Event) : (s.setInput es).batCnt = s.batCnt := rfl
@[simp] theorem State.setInput_input (s : State) (es : List Event) : (s.setInput es).input = es := rfl
@[simp] theorem State.setInput_response (s : State) (es : List Event) : (s.setInput es).response = s.response := rfl

@[simp] theorem State.clearStatus_cfg (s : State) : s.clearStatus.cfg = s.cfg := rfl
@[simp] theorem State.clearStatus_arg0 (s : State) : s.clearStatus.arg0 = s.arg0 := rfl
@[simp] theorem State.clearStatus_arg1 (s : State) : s.clearStatus.arg1 = s.arg1 := rfl
@[simp] theorem State.clearStatus_res (s : State) : s.clearStatus.res = s.res := rfl
@[simp] theorem State.clearStatus_err (s : State) : s.clearStatus.err = false := rfl
@[simp] theorem State.clearStatus_errCause (s : State) : s.clearStatus.errCause = 0 := rfl
@[simp] theorem State.clearStatus_batGood (s : State) : s.clearStatus.batGood = s.batGood := rfl
@[simp] theorem State.clearStatus_ledsOn (s : State) : s.clearStatus.ledsOn = s.ledsOn := rfl
@[simp] theorem State.clearStatus_ledsCc (s : State) : s.clearStatus.ledsCc = s.ledsCc := rfl
@[simp] theorem State.clearStatus_act (s : State) : s.clearStatus.act = s.act := rfl
@[simp] theorem State.clearStatus_phase (s : State) : s.clearStatus.phase = s.phase := rfl
@[simp] theorem State.clearStatus_ring (s : State) : s.clearStatus.ring = s.ring := rfl
@[simp] theorem State.clearStatus_cur (s : State) : s.clearStatus.cur = s.cur := rfl
@[simp] theorem State.clearStatus_batCnt (s : State) : s.clearStatus.batCnt = s.batCnt := rfl
@[simp] theorem State.clearStatus_input (s : State) : s.clearStatus.input = s.input := rfl
@[simp] theorem State.clearStatus_response (s : State) : s.clearStatus.response = s.response := rfl

@[simp] theorem State.resetWith_cfg (c : Config) : (State.resetWith c).cfg = c := rfl
@[simp] theorem State.resetWith_arg0 (c : Config) : (State.resetWith c).arg0 = 0 := rfl
@[simp] theorem State.resetWith_arg1 (c : Config) : (State.resetWith c).arg1 = 0 := rfl
@[simp] theorem State.resetWith_res (c : Config) : (State.resetWith c).res = 0 := rfl
@[simp] theorem State.resetWith_err (c : Config) : (State.resetWith c).err = false := rfl
@[simp] theorem State.resetWith_errCause (c : Config) : (State.resetWith c).errCause = 0 := rfl
@[simp] theorem State.resetWith_batGood (c : Config) : (State.resetWith c).batGood = true := rfl
@[simp] theorem State.resetWith_ledsOn (c : Config) : (State.resetWith c).ledsOn = 0 := rfl
@[simp] theorem State.resetWith_ledsCc (c : Config) : (State.resetWith c).ledsCc = 0 := rfl
@[simp] theorem State.resetWith_act (c : Config) : (State.resetWith c).act = #v[0, 0, 0] := rfl
@[simp] theorem State.resetWith_ring (c : Config) : (State.resetWith c).ring = List.replicate c.capacity 0 := rfl
@[simp] theorem State.resetWith_cur (c : Config) : (State.resetWith c).cur = 0 := rfl
@[simp] theorem State.resetWith_batCnt (c : Config) : (State.resetWith c).batCnt = 0 := rfl
@[simp] theorem State.resetWith_input (c : Config) : (State.resetWith c).input = [] := rfl
@[simp] theorem State.resetWith_response (c : Config) : (State.resetWith c).response = .idle := rfl

end Sys2Proof.Machine
end

