-- ==== Sys2Proof/Laws/Ops.lean ====
section
/-! SUPPORT. One lemma for each shared operation that says what it does, for later proofs to cite. -/

namespace Sys2Proof.Machine

/-! ### Arithmetic -/

theorem rm_eq_div (x r : Nat) : rm x r = x * r / 65536 := by simp [rm, Nat.shiftRight_eq_div_pow]

@[simp] theorem clamp255_toNat (a : Word) : (clamp255 a).toNat = min a.toNat 255 := by
  simp only [clamp255, BitVec.toNat_ofNat]
  omega

theorem recip_le (n : Nat) (h : 1 ≤ n) : recip n ≤ 65536 := by
  have : 131072 + n ≤ 65536 * (2 * n) + (2 * n - 1) := by omega
  have h2 : (131072 + n) / (2 * n) < 65537 := by
    rw [Nat.div_lt_iff_lt_mul (by omega)]
    omega
  simpa [recip] using Nat.lt_succ_iff.mp h2

/-! ### LED masks -/

/-- The mask of one LED, bit by bit. -/
theorem ledBit_getLsbD (l i : Fin 9) (b : Bool) : (ledBit l b).getLsbD i.val = (b && decide (i = l)) := by
  revert l i b
  decide

theorem ledBit_false (l : Fin 9) : ledBit l false = 0#9 := rfl

/-- The two masks in the word, as one number. -/
theorem ledsWord_toNat (on cc : LedMask) : (ledsWord on cc).toNat = on.toNat + 65536 * cc.toNat := by
  have h1 := on.isLt
  have h2 := cc.isLt
  simp only [ledsWord, BitVec.toNat_append, BitVec.toNat_ofNat]
  rw [← Nat.shiftLeft_add_eq_or_of_lt (b := on.toNat) (i := 9) h1]
  simp only [Nat.shiftLeft_eq, Nat.zero_mod, Nat.zero_mul, Nat.zero_or, Nat.or_zero]
  omega

/-! ### The error outcomes -/

/-- An illegal command writes RES, ERR and ERRCAUSE, and nothing else. -/
theorem takeIllegal_eq (c : IllegalCause) (s : State) :
    takeIllegal c s = { s with res := 0, err := true, errCause := causeCode c } := rfl

/-- A bus error writes the bus response, and no state of the block. -/
theorem takeBusError_eq (e : BusError) (s : State) : takeBusError e s = { s with response := .error e } := rfl

theorem causeCode_ne_zero (c : IllegalCause) : causeCode c ≠ 0 := by cases c <;> decide

theorem causeCode_ne_three (c : IllegalCause) : causeCode c ≠ 3 := by cases c <;> decide

end Sys2Proof.Machine
end

