-- ==== Sys2Proof/Laws/Commands.lean ====
section
/-! SUPPORT. What one advance of a triad can do, said once, and the fact that every command answers a next state. -/

namespace Sys2Proof.Machine

/-! ### One triad -/

/-- What one advance of a triad does: the wrap, or the plain step. -/
theorem advanceTriad_cases (t : Fin 3) (s : State) :
    (s.wraps t = true ∧ advanceTriad t s = { s with
      act := s.act.set t.val (s.act[t.val] + 1)
      phase := (s.phase.set (s.activeLed t).val 0).set (ledIndex t (s.act[t.val] + 1)).val 0 }) ∨
    (s.wraps t = false ∧ advanceTriad t s = { s with
      phase := s.phase.set (s.activeLed t).val (s.phase[(s.activeLed t).val] + 1) }) := by
  cases h : s.wraps t
  · exact .inr ⟨rfl, by simp [advanceTriad, h, State.setPhase]⟩
  · exact .inl ⟨rfl, by simp [advanceTriad, h, State.setPhase, State.setAct]⟩

/-- An advance of a triad writes ACT and PHASE only. -/
theorem advanceTriad_frame (t : Fin 3) (s : State) :
    advanceTriad t s = { s with act := (advanceTriad t s).act, phase := (advanceTriad t s).phase } := by
  rcases advanceTriad_cases t s with ⟨-, h⟩ | ⟨-, h⟩ <;> rw [h]

/-- The advance of all triads writes ACT and PHASE only. -/
theorem advanceTriads_frame (s : State) :
    advanceTriads s = { s with act := (advanceTriads s).act, phase := (advanceTriads s).phase } := by
  unfold advanceTriads
  rw [advanceTriad_frame 2, advanceTriad_frame 1, advanceTriad_frame 0]

@[simp] theorem advanceTriads_cfg (s : State) : (advanceTriads s).cfg = s.cfg := by rw [advanceTriads_frame]

/-! ### The commands -/

/-- The state a command leads to. -/
def commandEffect (i : Instr) (s : State) : State :=
  match exec i s with
  | .next t => t
  | _ => s

/-- Every command answers a next state: the one `commandEffect` names. -/
theorem exec_eq_commandEffect (i : Instr) (s : State) : exec i s = .next (commandEffect i s) := by
  cases i <;> rfl

end Sys2Proof.Machine
end

