-- ==== Sys2Proof/Laws/Animation.lean ====
section
/-! SUPPORT. What the advance of one triad and of all three does to each member and each phase, and what a mask made of
one LED per triad holds. -/

namespace Sys2Proof.Machine

theorem State.wraps_iff (s : State) (t : Fin 3) :
    s.wraps t = true ↔ s.phase[(ledIndex t s.act[t.val]).val].toNat + 1 = s.cfg.period :=
  ⟨of_decide_eq_true, decide_eq_true⟩

/-- Two members are at one index only if they are the same member of the same triad. -/
theorem ledIndex_val_eq_iff (t m k n : Fin 3) :
    (ledIndex t m).val = (ledIndex k n).val ↔ k = t ∧ n = m := by
  revert t m k n
  decide

@[simp] theorem advanceTriad_cfg (t : Fin 3) (s : State) : (advanceTriad t s).cfg = s.cfg := by
  rw [advanceTriad_frame]

/-- The active member of triad `k` after an advance of triad `t`. -/
theorem advanceTriad_act (t k : Fin 3) (s : State) :
    (advanceTriad t s).act[k.val] = if k = t ∧ s.wraps t = true then s.act[t.val] + 1 else s.act[k.val] := by
  have hv : t.val = k.val ↔ k = t := by rw [Fin.ext_iff]; exact eq_comm
  rcases advanceTriad_cases t s with ⟨h, e⟩ | ⟨h, e⟩ <;> rw [e] <;> simp [h, Vector.getElem_set, hv]

/-- The phase of member `n` of triad `k` after an advance of triad `t`. -/
theorem advanceTriad_phase (t k n : Fin 3) (s : State) :
    (advanceTriad t s).phase[(ledIndex k n).val] =
      if k = t then
        if s.wraps t = true then
          if n = s.act[t.val] ∨ n = s.act[t.val] + 1 then 0 else s.phase[(ledIndex k n).val]
        else if n = s.act[t.val] then s.phase[(ledIndex k n).val] + 1 else s.phase[(ledIndex k n).val]
      else s.phase[(ledIndex k n).val] := by
  rcases advanceTriad_cases t s with ⟨h, e⟩ | ⟨h, e⟩ <;> rw [e] <;>
    simp only [State.activeLed, h, Vector.getElem_set, ledIndex_val_eq_iff]
  all_goals
    by_cases hk : k = t <;> simp [hk]
    split_ifs <;> simp_all

/-- An advance of one triad does not touch whether another wraps. -/
theorem wraps_advanceTriad_of_ne {t k : Fin 3} (h : k ≠ t) (s : State) :
    (advanceTriad t s).wraps k = s.wraps k := by
  rw [Bool.eq_iff_iff, State.wraps_iff, State.wraps_iff]
  simp only [advanceTriad_act, advanceTriad_phase, advanceTriad_cfg, h, false_and, if_false]

/-- The active member of a triad after the advance of all three. -/
theorem advanceTriads_act (k : Fin 3) (s : State) :
    (advanceTriads s).act[k.val] = if s.wraps k = true then s.act[k.val] + 1 else s.act[k.val] := by
  have h10 : (1 : Fin 3) ≠ 0 := by decide
  have h20 : (2 : Fin 3) ≠ 0 := by decide
  have h21 : (2 : Fin 3) ≠ 1 := by decide
  unfold advanceTriads
  obtain rfl | rfl | rfl : k = 0 ∨ k = 1 ∨ k = 2 := by revert k; decide
  all_goals simp only [advanceTriad_act, wraps_advanceTriad_of_ne h10, wraps_advanceTriad_of_ne h20,
    wraps_advanceTriad_of_ne h21, h10, h20, h21, h10.symm, h20.symm, h21.symm, true_and, false_and, if_false]

/-- The phase of a member of a triad after the advance of all three. -/
theorem advanceTriads_phase (k n : Fin 3) (s : State) :
    (advanceTriads s).phase[(ledIndex k n).val] =
      if s.wraps k = true then
        if n = s.act[k.val] ∨ n = s.act[k.val] + 1 then 0 else s.phase[(ledIndex k n).val]
      else if n = s.act[k.val] then s.phase[(ledIndex k n).val] + 1 else s.phase[(ledIndex k n).val] := by
  have h10 : (1 : Fin 3) ≠ 0 := by decide
  have h20 : (2 : Fin 3) ≠ 0 := by decide
  have h21 : (2 : Fin 3) ≠ 1 := by decide
  unfold advanceTriads
  obtain rfl | rfl | rfl : k = 0 ∨ k = 1 ∨ k = 2 := by revert k; decide
  all_goals simp only [advanceTriad_phase, advanceTriad_act, wraps_advanceTriad_of_ne h10,
    wraps_advanceTriad_of_ne h20, wraps_advanceTriad_of_ne h21, h10, h20, h21, h10.symm, h20.symm, h21.symm,
    false_and, if_false, if_true]

/-- A mask made of one LED for each triad, bit by bit. -/
theorem triadMask_getLsbD (f : Fin 3 → Fin 3) (b : Fin 3 → Bool) (k n : Fin 3) :
    (ledBit (ledIndex 0 (f 0)) (b 0) ||| ledBit (ledIndex 1 (f 1)) (b 1) |||
      ledBit (ledIndex 2 (f 2)) (b 2)).getLsbD (ledIndex k n).val = (decide (n = f k) && b k) := by
  have hk : k = 0 ∨ k = 1 ∨ k = 2 := by revert k; decide
  have hx : ∀ t m : Fin 3, decide (ledIndex k n = ledIndex t m) = (decide (k = t) && decide (n = m)) := by
    clear hk
    revert k n
    decide
  simp only [BitVec.getLsbD_or, ledBit_getLsbD, hx]
  obtain rfl | rfl | rfl := hk
  all_goals simp [Bool.and_comm]

end Sys2Proof.Machine
end

