-- ==== Sys2Proof/Laws/Step.lean ====
section
/-! SUPPORT. What a step of the machine can do, said once, and the laws of repeated commands. -/

namespace Sys2Proof.Machine

theorem Access.inWindow_iff (a : Access) (c : Config) :
    a.inWindow c = true ↔ c.base ≤ a.addr ∧ a.addr < c.base + 4096 := by simp [Access.inWindow]

theorem Access.busError_eq_none_iff (a : Access) (c : Config) :
    a.busError c = none ↔ a.bits = 32 ∧ (a.addr - c.base) % 4 = 0 := by
  unfold Access.busError Access.offset
  by_cases h : a.bits = 32 <;> simp [h]

/-- What an aligned 32-bit write can do to the state. -/
theorem writeWord_cases {o : Nat} {w : Word} {s t : State} (h : writeWord o w s = .next t) :
    (∃ i, regAt o = some .cmd ∧ decode w = .ok i ∧ t = commandEffect i s) ∨
    (∃ c, regAt o = some .cmd ∧ decode w = .error c ∧ t = takeIllegal c s) ∨
    (regAt o = some .arg0 ∧ t = s.setArg0 w) ∨ (regAt o = some .arg1 ∧ t = s.setArg1 w) ∨ t = s := by
  unfold writeWord at h
  split at h
  · next hr =>
    unfold execWord at h
    split at h
    · next i hd =>
      rw [exec_eq_commandEffect] at h
      cases h
      exact .inl ⟨i, hr, hd, rfl⟩
    · next c hd =>
      cases h
      exact .inr (.inl ⟨c, hr, hd, rfl⟩)
  · next hr =>
    cases h
    exact .inr (.inr (.inl ⟨hr, rfl⟩))
  · next hr =>
    cases h
    exact .inr (.inr (.inr (.inl ⟨hr, rfl⟩)))
  · cases h
    exact .inr (.inr (.inr (.inr rfl)))

/-- An access that reaches the block is always answered with a next state. -/
theorem writeWord_next (o : Nat) (w : Word) (s : State) : ∃ t, writeWord o w s = .next t := by
  unfold writeWord
  split
  · unfold execWord
    split
    · exact ⟨_, exec_eq_commandEffect _ _⟩
    · exact ⟨_, rfl⟩
  all_goals exact ⟨_, rfl⟩

/-- What serving one access can do to the state. -/
theorem serve_cases {a : Access} {s t : State} (h : serve a s = .next t) :
    a.inWindow s.cfg = true ∧
    ((∃ e, a.busError s.cfg = some e ∧ t = takeBusError e s) ∨
     (a.busError s.cfg = none ∧ a.kind = .read ∧ t = s.respond (.readData (s.readWord (a.offset s.cfg)))) ∨
     (∃ w, a.busError s.cfg = none ∧ a.kind = .write w ∧
       writeWord (a.offset s.cfg) w (s.respond .written) = .next t)) := by
  unfold serve at h
  split at h
  · next hw =>
    refine ⟨hw, ?_⟩
    split at h
    · next e he =>
      cases h
      exact .inl ⟨e, he, rfl⟩
    · next hn =>
      split at h
      · next hk =>
        cases h
        exact .inr (.inl ⟨hn, hk, rfl⟩)
      · next w hk => exact .inr (.inr ⟨w, hn, hk, h⟩)
  · cases h

/-- An access in the window is always answered with a next state. -/
theorem serve_next {a : Access} {s : State} (h : a.inWindow s.cfg = true) : ∃ t, serve a s = .next t := by
  unfold serve
  rw [if_pos h]
  split
  · exact ⟨_, rfl⟩
  · split
    · exact ⟨_, rfl⟩
    · exact writeWord_next _ _ _

/-- What one step can do: nothing, an access served, or a reset. -/
theorem step_cases {s t : State} (h : step s = .next t) :
    s.cfg.buildable = true ∧
    ((s.input = [] ∧ t = s) ∨
     (∃ a rest, s.input = .access a :: rest ∧ serve a (s.setInput rest) = .next t) ∨
     (∃ rest, s.input = .reset :: rest ∧ t = (State.resetWith s.cfg).setInput rest)) := by
  unfold step serveNext at h
  split at h
  · next hb =>
    refine ⟨hb, ?_⟩
    split at h
    · next hi =>
      cases h
      exact .inl ⟨hi, rfl⟩
    · next a rest hi => exact .inr (.inl ⟨a, rest, hi, h⟩)
    · next rest hi =>
      cases h
      exact .inr (.inr ⟨rest, hi, rfl⟩)
    · cases h
  · cases h

/-- A step at an access is that access served. -/
theorem step_access {s : State} {a : Access} {rest : List Event} (hb : s.cfg.buildable = true)
    (hi : s.input = .access a :: rest) : step s = serve a (s.setInput rest) := by
  unfold step serveNext
  rw [if_pos hb, hi]

@[simp] theorem run_zero (s : State) : Sys2Proof.core.run 0 s = .next s := rfl

/-- A run of any machine goes on from the state its first step leads to. -/
theorem core_run_succ {M : Host.Core} {s t : M.State} (h : M.step s = .next t) (k : Nat) :
    M.run (k + 1) s = M.run k t := by
  simp only [Host.Core.run, h]

/-- A run of the block goes on from the state its first step leads to. -/
theorem run_succ_of_step {s t : State} (h : step s = .next t) (k : Nat) :
    Sys2Proof.core.run (k + 1) s = Sys2Proof.core.run k t := core_run_succ (M := Sys2Proof.core) h k

@[simp] theorem repeatCommand_nil (i : Instr) (s : State) : repeatCommand i [] s = .next s := rfl

/-- Repeated commands are always answered with a next state. -/
theorem repeatCommand_next (i : Instr) (xs : List Word) (s : State) : ∃ t, repeatCommand i xs s = .next t := by
  induction xs generalizing s with
  | nil => exact ⟨s, rfl⟩
  | cons x xs ih =>
    obtain ⟨t, h⟩ := ih (commandEffect i (s.setArg0 x))
    exact ⟨t, by simp only [repeatCommand, exec_eq_commandEffect, h]⟩

/-- Repeated commands, one at a time. -/
@[simp] theorem repeatCommand_cons (i : Instr) (x : Word) (xs : List Word) (s : State) :
    repeatCommand i (x :: xs) s = repeatCommand i xs (commandEffect i (s.setArg0 x)) := by
  simp only [repeatCommand, exec_eq_commandEffect]

end Sys2Proof.Machine
end

