-- ==== Sys2Proof/Laws/HostProgram.lean ====
section
/-! SUPPORT. What a step of a host program can do, said once. -/

namespace Sys2Proof.Machine

/-- What takes part in a command sequence is a 32-bit aligned access to the window: a write to an operand register or to
CMD, or a read of a result register. -/
theorem Event.role_eq_iff (c : Config) (e : Event) (k : SequenceRole) (hk : k ≠ .other) :
    e.role c = k ↔ ∃ a : Access, e = .access a ∧ a.inWindow c = true ∧ a.busError c = none ∧
      registerRole a.kind (regAt (a.offset c)) = k := by
  cases e with
  | access a =>
    have hv : (Event.access a).role c =
        if a.inWindow c && a.busError c == none then registerRole a.kind (regAt (a.offset c)) else .other := rfl
    rw [hv]
    split
    · next h =>
      rw [Bool.and_eq_true, beq_iff_eq] at h
      exact ⟨fun hr => ⟨a, rfl, h.1, h.2, hr⟩, by rintro ⟨_, ⟨⟩, _, _, hr⟩; exact hr⟩
    · next h =>
      rw [Bool.and_eq_true, beq_iff_eq] at h
      exact ⟨fun hr => absurd hr.symm hk, by rintro ⟨_, ⟨⟩, hw, hb, _⟩; exact absurd ⟨hw, hb⟩ h⟩
  | reset => exact ⟨fun hr => absurd hr.symm hk, by rintro ⟨_, ⟨⟩, _⟩⟩
  | brownOut => exact ⟨fun hr => absurd hr.symm hk, by rintro ⟨_, ⟨⟩, _⟩⟩

@[simp] theorem SequenceMonitor.isOvertaken_start (q : Option Nat) :
    SequenceMonitor.start.isOvertaken q = false := by
  cases q <;> rfl

/-- The sequence that has just written is the current one. -/
@[simp] theorem SequenceMonitor.write_current (m : SequenceMonitor) (q : Option Nat) :
    (m.write q).current = q := by
  unfold SequenceMonitor.write
  split
  · next h => exact h
  · rfl

/-- A write overtakes the sequence that wrote last, unless it is a write of the same one. -/
theorem SequenceMonitor.mem_write_overtaken (m : SequenceMonitor) (q : Option Nat) (n : Nat) :
    n ∈ (m.write q).overtaken ↔ n ∈ m.overtaken ∨ (m.current = some n ∧ q ≠ some n) := by
  unfold SequenceMonitor.write
  split
  · next h =>
    subst h
    exact ⟨.inl, fun h => h.elim id (fun h => absurd h.1 h.2)⟩
  · next h =>
    rw [List.mem_append, Option.mem_toList]
    exact ⟨fun hm => hm.elim (fun hc => .inr ⟨hc, fun hq => h (hc.trans hq.symm)⟩) .inl,
      fun hm => hm.elim .inr (fun hc => .inl hc.1)⟩

/-- When the sequences interleave: an overtaken one takes part again. -/
theorem SequenceMonitor.observe_eq_none_iff (m : SequenceMonitor) (q : Option Nat) (k : SequenceRole) :
    m.observe q k = none ↔ k ≠ .other ∧ m.isOvertaken q = true := by
  cases k <;> simp [SequenceMonitor.observe]

/-- What the monitor can become. -/
theorem SequenceMonitor.observe_cases {m n : SequenceMonitor} {q : Option Nat} {k : SequenceRole}
    (h : m.observe q k = some n) :
    (k = .write ∧ m.isOvertaken q = false ∧ n = m.write q) ∨
    (k = .read ∧ m.isOvertaken q = false ∧ n = m) ∨ (k = .other ∧ n = m) := by
  cases k
  · simp_all [SequenceMonitor.observe]
  · simp only [SequenceMonitor.observe] at h
    split at h <;> simp_all
  · simp_all [SequenceMonitor.observe]

/-- A step of the host program that goes on is one step of the block, with the monitor's agreement. -/
theorem hostStep_eq_next_iff (a : HostAccess) (h g : HostState) :
    hostStep a h = .next g ↔ h.monitor.observe a.sequence (a.event.role h.block.cfg) = some g.monitor ∧
      step (h.block.setInput [a.event]) = .next g.block := by
  unfold hostStep
  split
  · next hm => simp [hm]
  · next m hm =>
    rw [hm]
    split
    · next s hs =>
      rw [hs]
      cases g
      simp [and_comm]
    · next r _ => exact nomatch r
    · next r hr => simp [hr]

/-- A host fault is raised exactly where the monitor does not agree. -/
theorem hostStep_eq_fault_iff (a : HostAccess) (h : HostState) (r : HostFault) :
    hostStep a h = .fault r ↔ h.monitor.observe a.sequence (a.event.role h.block.cfg) = none := by
  unfold hostStep
  split
  · next hm => cases r; simp [hm]
  · next m hm =>
    rw [hm]
    split
    · simp
    · next r _ => exact nomatch r
    · simp

@[simp] theorem runHost_nil (h : HostState) : runHost [] h = .next h := rfl

/-- A host program goes on from the state its first event leads to. -/
theorem runHost_cons_of_next {a : HostAccess} {h g : HostState} (hs : hostStep a h = .next g)
    (tr : List HostAccess) : runHost (a :: tr) h = runHost tr g := by
  simp only [runHost, hs]

/-- A host program that completes completes its first event. -/
theorem runHost_cons_eq_next_iff (a : HostAccess) (tr : List HostAccess) (h g : HostState) :
    runHost (a :: tr) h = .next g ↔ ∃ k, hostStep a h = .next k ∧ runHost tr k = .next g := by
  rw [runHost]
  split
  · next k hk => simp [hk]
  · next r hr => simp [hr]
  · next r hr => simp [hr]

end Sys2Proof.Machine
end

