-- ==== Sys2Proof/Laws/PerInstr.lean ====
section
/-! SUPPORT. The statements made for each command by name. Family `EncodedFields`: a command's word is its opcode in bits
3..0 under zero reserved bits, and its fields are legal (R81, R87). -/

namespace Sys2Proof.Laws.EncodedFields

/-- The fields of a command's word. -/
def Statement (i : Instr) : Prop :=
  fieldsOf (encode i) = { op := opcodeOf i, rsv := 0 } ∧ (fieldsOf (encode i)).legal = true

theorem nop : Statement .nop := by unfold Statement; decide
theorem rmul : Statement .rmul := by unfold Statement; decide
theorem advance : Statement .advance := by unfold Statement; decide
theorem mafUpdate : Statement .mafUpdate := by unfold Statement; decide
theorem scale : Statement .scale := by unfold Statement; decide
theorem batUpdate : Statement .batUpdate := by unfold Statement; decide

end Sys2Proof.Laws.EncodedFields
end

