-- ==== Sys2Proof/Tests/Slice0.lean ====
section
/-! SUPPORT. Tests. Expected values are those of spec/95_test_vectors.md or of the worked examples of the rules, as each
name or comment says. The theorems `test_witness_<Name>` show states and operands that meet the hypotheses of the
statement of that name, at the bounds of its clauses. -/

namespace Sys2Proof.Tests

open Sys2Proof Sys2Proof.Machine

/-- A field of the next state, if there is one. -/
def after {α : Type} (f : State → α) : Host.Outcome State Fault Refusal → Option α
  | .next t => some (f t)
  | _ => none

/-- Why a step was refused, if it was. -/
def refusal : Host.Outcome State Fault Refusal → Option Refusal
  | .refused r => some r
  | _ => none

/-- The reset state with these events at its port. -/
def port (es : List Event) : State := State.reset.setInput es

/-- The reset state with this operand in ARG0. -/
def withArg (x : Word) : State := State.reset.setArg0 x

/-- A read or write at an offset of the window at BASE = 0. -/
def acc (k : AccessKind) (o bits : Nat) : Event := .access { kind := k, addr := o, bits := bits }

/-- COARSECFG of 95_test_vectors.md, which is not exact. -/
def coarse : Config :=
  { Config.testcfg with period := 39324, segments := 6, subperiod := 2, sineLut := [0, 64, 191, 255, 191, 64] }

/-- TESTCFG with a window that does not start at 0. -/
def moved : Config := { Config.testcfg with base := 0x4000 }

/-- TESTCFG with a filter of one slot. -/
def oneSlot : Config := { Config.testcfg with capacity := 1 }

/-- A state with the three active phases at `p` and amplitude 255. -/
def atPhase (p : Phase) : State :=
  { State.reset with phase := #v[p, p, p, 0, 0, 0, 0, 0, 0], arg0 := 255 }

/-- A host program in front of the reset state. -/
def hosted : HostState := { block := State.reset, monitor := .start }

/-- A host access of sequence `q`. -/
def inSeq (q : Nat) (e : Event) : HostAccess := { sequence := some q, event := e }

/-- A host access of no sequence. -/
def stray (e : Event) : HostAccess := { sequence := none, event := e }

/-- A field of the host program's outcome, or the fault it ends with. -/
def hosting {α : Type} (f : HostState → α) : Host.Outcome HostState HostFault Refusal → Option (α ⊕ HostFault)
  | .next h => some (.inl (f h))
  | .fault r => some (.inr r)
  | .refused _ => none

/-! ### Decoding: the words of R83, written out -/

theorem test_decode_nop : decode 0b00000000000000000000000000000000#32 = .ok .nop := by decide
theorem test_decode_rmul : decode 0b00000000000000000000000000000001#32 = .ok .rmul := by decide
theorem test_decode_advance : decode 0b00000000000000000000000000000010#32 = .ok .advance := by decide
theorem test_decode_maf_update : decode 0b00000000000000000000000000000011#32 = .ok .mafUpdate := by decide
theorem test_decode_scale : decode 0b00000000000000000000000000000100#32 = .ok .scale := by decide
theorem test_decode_bat_update : decode 0b00000000000000000000000000000101#32 = .ok .batUpdate := by decide
theorem test_decode_reserved_opcode : decode 0x0000000F#32 = .error .reservedOpcode := by decide
/-- R191: a word with both a reserved opcode and reserved bits reports the bits. -/
theorem test_decode_reserved_bits_first : decode 0xFFFFFFFF#32 = .error .reservedBits := by decide
theorem test_decode_table_word : decodeTableWord 32 0x00000005 = some .batUpdate := by decide
theorem test_decode_short_bytes : decodeBytes [3, 0, 0] = .error .notOneWord := by decide

/-! ### What the checks of WellFormed refuse (R7, R8, R82) -/

theorem test_testcfg_is_buildable : Config.testcfg.buildable = true := by decide
theorem test_coarse_is_buildable : coarse.buildable = true := by decide
theorem test_period_refused : Config.buildable { Config.testcfg with period := 65540 } = false := by decide
theorem test_segments_refused : Config.buildable { Config.testcfg with segments := 19 } = false := by decide
theorem test_subperiod_refused : Config.buildable { Config.testcfg with subperiod := 3 } = false := by decide
theorem test_sine_length_refused : Config.buildable { Config.testcfg with sineLut := [0] } = false := by decide
theorem test_sine_value_refused :
    Config.buildable { Config.testcfg with sineLut := List.replicate 20 256 } = false := by decide
theorem test_capacity_refused : Config.buildable { Config.testcfg with capacity := 6 } = false := by decide
theorem test_threshold_refused : Config.buildable { Config.testcfg with lowThreshold := 2 ^ 32 } = false := by decide
theorem test_guard_refused : Config.buildable { Config.testcfg with guard := 255 } = false := by decide
theorem test_floor_refused : Config.buildable { Config.testcfg with floor := 256 } = false := by decide
theorem test_slope_refused : Config.buildable { Config.testcfg with slope := 256 } = false := by decide
theorem test_reset_phase_refused :
    Config.buildable { Config.testcfg with resetPhase := #v[0, 400, 0] } = false := by decide
theorem test_base_refused : Config.buildable { Config.testcfg with base := 4 } = false := by decide
theorem test_reserved_word_not_legal : CmdWord.legal { op := 2, rsv := 1 } = false := by decide
theorem test_reserved_opcode_not_legal : CmdWord.legal { op := 6, rsv := 0 } = false := by decide

/-! ### Arithmetic: tables V1 and D1, and section 2.4 -/

theorem test_recip_table :
    [1, 3, 7, 20, 255, 43690, 43691, 65536].map recip = [65536, 21845, 9362, 3277, 257, 2, 1, 1] := by decide
/-- D1 at p = 105, 110, 209 and 210 with amplitude 255, and at p = 105 and 210 with amplitude 128. -/
theorem test_duty_testcfg :
    [105, 110, 209, 210].map (fun p => duty Config.testcfg p 255) = [false, true, false, true] ∧
    [105, 210].map (fun p => duty Config.testcfg p 128) = [false, true] := by decide
/-- Section 2.4 at p = 32770: lb = 32771 exceeds p, and T wraps round to 32769. -/
theorem test_duty_wraps_in_coarse :
    lowerBound coarse 5 = 32771 ∧ subWindow coarse 32770 32771 = 0x7FFFFFFF ∧
    transitionToLow coarse 32771 0x7FFFFFFF 0 = 32769 := by decide

/-! ### The commands -/

/-- R190: NOP after an illegal command clears the status and keeps RES. -/
theorem test_nop : after (fun t => (t.err, t.errCause, t.res))
    (exec .nop { State.reset with err := true, errCause := 1, res := 9 }) = some (false, 0, 9) := by decide
/-- R104, worked example. -/
theorem test_rmul : after State.res (exec .rmul ((withArg 7600).setArg1 3277)) = some 380 := by decide
/-- 2.2, last row: bits 47..16 only. -/
theorem test_rmul_truncates :
    after State.res (exec .rmul ((withArg 0xFFFFFFFF).setArg1 0xFFFFFFFF)) = some 0xFFFE0000 := by decide
/-- R135, worked example: from phase 199 to 200, all three LEDs on. -/
theorem test_advance :
    after (fun t => (t.res, t.phase[0], t.act[0])) (exec .advance (atPhase 199)) = some (7, 200, 0) := by decide
/-- Vector A3: the wrap of tick 400. -/
theorem test_advance_wraps : after (fun t => (t.res, t.ledsCc, t.act, t.phase[0], t.phase[3]))
    (exec .advance (atPhase 399)) = some (0x00070000, 7, #v[1, 1, 1], 0, 0) := by decide
/-- W1, the 8th sample: the cursor goes back to 0. -/
theorem test_maf_update : after (fun t => (t.res, t.cur))
    (exec .mafUpdate { withArg 8 with ring := [1, 2, 3, 4, 5, 6, 7, 0], cur := 7 }) = some (4, 0) := by decide
/-- 2.6, third row: a sample above 255 is stored as 255. -/
theorem test_maf_update_clamps : after (fun t => (t.res, t.ring[0]?))
    (exec .mafUpdate (withArg 300)) = some (31, some 255) := by decide
/-- W4. -/
theorem test_scale : after State.res (exec .scale (withArg 63)) = some 255 := by decide
/-- 2.7: a code whose product does not fit 32 bits is clamped, not wrapped. -/
theorem test_scale_clamps : after State.res (exec .scale (withArg 0xFFFFFFFF)) = some 255 := by decide
/-- W7, the 6th low sample. -/
theorem test_bat_update_trips : after (fun t => (t.res, t.batCnt, t.batGood))
    (exec .batUpdate { withArg 99 with batCnt := 5 }) = some (0, 5, false) := by decide
/-- W8: a sample equal to LOW_THRESHOLD is good. -/
theorem test_bat_update_clears : after (fun t => (t.res, t.batCnt, t.batGood))
    (exec .batUpdate { withArg 100 with batCnt := 5, batGood := false }) = some (1, 0, true) := by decide

/-! ### The bus: section 2.10, the status words of section 2.9, and the way a command comes to run -/

theorem test_narrow_write_refused : after (fun t => (t.response, t.arg0))
    (step (port [acc (.write 5) 4 16])) = some (.error .width, 0) := by decide
theorem test_width_before_alignment :
    after State.response (step (port [acc (.write 5) 1 16])) = some (.error .width) := by decide
theorem test_misaligned_read :
    after State.response (step (port [acc .read 6 32])) = some (.error .misaligned) := by decide
theorem test_write_arg0 : after State.arg0 (step (port [acc (.write 5) 4 32])) = some 5 := by decide
theorem test_write_res_ignored : after State.res (step (port [acc (.write 5) 0xC 32])) = some 0 := by decide
theorem test_read_cmd : after State.response (step (port [acc .read 0 32])) = some (.readData 0) := by decide
theorem test_read_active : after State.response (step (port [acc .read 0x18 32])) = some (.readData 7) := by decide
theorem test_read_unassigned : after State.response (step (port [acc .read 0x30 32])) = some (.readData 0) := by
  decide
theorem test_read_sine_19 : after State.response (step (port [acc .read 0x84C 32])) = some (.readData 6) := by
  decide +kernel
theorem test_read_sine_20 : after State.response (step (port [acc .read 0x850 32])) = some (.readData 0) := by
  decide +kernel
theorem test_illegal_word : after (fun t => (t.res, t.statusWord, t.phase[0]))
    (step (port [acc (.write 0x12) 0 32])) = some (0, 0x23, 0) := by decide
theorem test_reset_event : after (fun t => (t.arg0, t.batGood))
    (step { withArg 5 with batGood := false, input := [.reset] }) = some (0, true) := by decide
theorem test_brown_out_refused : refusal (step (port [.brownOut])) = some .brownOut := by decide
theorem test_outside_window_refused : refusal (step (port [acc .read 0x1000 32])) = some .outsideWindow := by decide
theorem test_unbuildable_refused :
    refusal (step (State.resetWith { Config.testcfg with guard := 255 })) = some .unbuildableConfig := by decide
theorem test_fetch_word_runs : after State.res (step (State.reset.withFetchWord 32 4)) = some 66 := by decide

/-! ### Host programs (R240, U1) -/

/-- R72's example: BAT_UPDATE by an interrupt handler between another context's ARG0 write and its ADVANCE. -/
theorem test_interleaving_is_a_host_fault : hosting (·.block.res) (runHost
    [inSeq 0 (wr Config.testcfg .arg0 255), inSeq 1 (wr Config.testcfg .arg0 80),
      inSeq 1 (issue Config.testcfg .batUpdate), inSeq 0 (issue Config.testcfg .advance)] hosted) =
    some (.inr .interleavedSequences) := by decide
/-- P4's opening read of CFG_RC_SEG, a bus error, another context's reads and a reset interleave nothing. -/
theorem test_other_accesses_are_no_host_fault : hosting (·.block.response) (runHost
    [stray (rd Config.testcfg .cfgRcSeg), inSeq 0 (wr Config.testcfg .arg0 0), stray (rd Config.testcfg .status),
      stray (acc (.write 7) 4 8), inSeq 1 (rd Config.testcfg .res), stray .reset,
      inSeq 0 (issue Config.testcfg .scale), stray (rd Config.testcfg .leds), inSeq 0 (rd Config.testcfg .res)]
    hosted) = some (.inl (.readData 66)) := by decide
theorem test_sequence_resumed_only_to_read_faults : hosting (·.block.res) (runHost
    [inSeq 0 (issue Config.testcfg .scale), inSeq 1 (issue Config.testcfg .nop), inSeq 0 (rd Config.testcfg .res)]
    hosted) = some (.inr .interleavedSequences) := by decide

/-! ### The hypotheses of the statements can be met -/

theorem test_witness_DecodingOrderOfCommandWord :
    (0x10#32).toNat / 16 ≠ 0 ∧ ((0xF#32).toNat / 16 = 0 ∧ 6 ≤ (0xF#32).toNat % 16) ∧
    ((0x6#32).toNat / 16 = 0 ∧ 6 ≤ (0x6#32).toNat % 16) ∧ ((0x5#32).toNat / 16 = 0 ∧ (0x5#32).toNat % 16 < 6) ∧
    decode 0x6#32 = .error .reservedOpcode := by decide
theorem test_witness_DecodeEncodeAgreeOnBytes :
    Instr.batUpdate.wellFormed = true ∧ decodeBytes [5, 0, 0, 0] = .ok .batUpdate := by decide
theorem test_witness_RmulResult :
    (State.reset.setArg1 65536).arg1.toNat = 65536 ∧ State.reset.arg1 = 0 ∧ (withArg 0).arg0 = 0 := by decide
theorem test_witness_ReferenceScaleIsOneToOne :
    (withArg 63).cfg.floor = 66 ∧ (withArg 63).cfg.slope = 3 ∧ (withArg 63).arg0.toNat = 63 := by decide
theorem test_witness_BatUpdateResult :
    6 = if (withArg 99).arg0.toNat < (withArg 99).cfg.lowThreshold then min ((5#8).toNat + 1) 255 else 0 := by decide
theorem test_witness_GoodSampleClearsTrip : (withArg 100).cfg.lowThreshold ≤ (withArg 100).arg0.toNat := by decide
theorem test_witness_BatteryTripsAfterGuardLowSamples :
    (State.reset.cfg.guard ≤ 254 ∧ ({ withArg 99 with batCnt := 5 } : State).batCnt.toNat = State.reset.cfg.guard ∧
      (withArg 99).arg0.toNat < State.reset.cfg.lowThreshold) ∧
    State.reset.batCnt = 0 ∧ ∀ x ∈ List.replicate 6 (99#32), x.toNat < State.reset.cfg.lowThreshold :=
  ⟨by decide, by decide, by intro x hx; obtain rfl := List.eq_of_mem_replicate hx; decide⟩
theorem test_witness_MafUpdateResult :
    (∀ c ∈ [Config.testcfg, oneSlot], c.capacityOk = true ∧ (State.resetWith c).ring.length = c.capacity ∧
      (State.resetWith c).cur.toNat < c.capacity) ∧ oneSlot.capacity = 1 := by decide
theorem test_witness_MafReturnsMeanOfLastSamples :
    State.reset.cfg.capacityOk = true ∧ State.reset.ring = List.replicate State.reset.cfg.capacity 0 ∧
    State.reset.cur = 0 ∧ [1#32, 300#32] ≠ [] := by decide
theorem test_witness_MafStaysInSampleDomain :
    Config.testcfg.buildable = true ∧ (∀ x ∈ [63#32], x.toNat ≤ 63) ∧ [63#32] ≠ [] :=
  ⟨by decide, (by intro x hx; obtain rfl := List.mem_singleton.mp hx; decide), by decide⟩
theorem test_witness_AdvanceStepsEachTriad :
    (0 : Fin 3) = (atPhase 399).act[0] ∧
    (atPhase 399).phase[(ledIndex 0 0).val].toNat + 1 = (atPhase 399).cfg.period ∧
    (atPhase 398).phase[(ledIndex 0 0).val].toNat + 1 ≠ (atPhase 398).cfg.period := by decide
theorem test_witness_AdvanceClampsAmplitude : 255 ≤ (withArg 255).arg0.toNat := by decide
theorem test_witness_DutyFunction :
    Config.testcfg.buildable = true ∧ 210 < Config.testcfg.period ∧ 255 ≤ 255 ∧
    10 = 210 / (Config.testcfg.period / Config.testcfg.segments) ∧
    200 = Config.testcfg.period * 10 * recip Config.testcfg.segments / 65536 ∧
    10 = (210 + 2 ^ 32 - 200) % 2 ^ 32 ∧ 1 = 10 * recip Config.testcfg.subperiod / 65536 ∧
    255 = Config.testcfg.sineLut.getD 10 0 * 255 / 255 ∧ 9 = 255 * Config.testcfg.subperiod / 256 ∧
    219 = (200 + 1 * Config.testcfg.subperiod % 2 ^ 32 + 9) % 2 ^ 32 := by decide
theorem test_witness_AmplitudeScalingIsFloorQuotient : 65025 ≤ 65025 ∧ 255 ≤ 255 ∧ 65789 < 65790 := by decide
theorem test_witness_OnLengthBelowSubperiod : 1 ≤ Config.testcfg.subperiod ∧ 255 ≤ 255 := by decide
theorem test_witness_SegmentIndexTable :
    Config.testcfg.buildable = true ∧ 0 ≤ 399 ∧ 399 < Config.testcfg.period := by decide
theorem test_witness_ExactConfigurationDuty :
    Config.testcfg.buildable = true ∧
    (∀ s, s < Config.testcfg.segments →
      rm (Config.testcfg.period * s) Config.testcfg.rcSeg = s * Config.testcfg.win) ∧
    (∀ d, d < Config.testcfg.win → rm d Config.testcfg.rcSub = d / Config.testcfg.subperiod) ∧
    399 < Config.testcfg.period ∧ Config.testcfg.sineLut.getD (Config.testcfg.segIdx 0) 0 = 0 ∧
    (399 - Config.testcfg.segIdx 399 * Config.testcfg.win) % Config.testcfg.subperiod =
      Config.testcfg.subperiod - 1 := by decide
theorem test_witness_invariant : (withArg 300).Inv :=
  ⟨by decide, by decide, by decide, by decide, by decide, by decide, by decide, by decide⟩
theorem test_witness_AnimationIsPeriodic :
    (withArg 300).Inv ∧ (List.replicate 400 (7#32)).length = (withArg 300).cfg.period ∧
    (List.replicate 1200 (7#32)).length = 3 * (withArg 300).cfg.period :=
  ⟨test_witness_invariant, by rw [List.length_replicate]; rfl, by rw [List.length_replicate]; rfl⟩
theorem test_witness_RecipIsNearestInteger : 1 ≤ 1 ∧ 1 ≤ 65536 ∧ 65536 ≤ 65536 ∧ 2 ≤ 65536 := by decide
theorem test_witness_RmIsExactAndBounded : 0xFFFFFFFF < 2 ^ 32 ∧ 65536 ≤ 65536 := by decide
theorem test_witness_RmVersusQuotient :
    16 ≤ 16 ∧ 1 ≤ 65536 ∧ 65536 ≤ 65536 ∧ 0xFFFFFFFF < 2 ^ 32 := by decide
theorem test_witness_OnlyItsCommandWritesEachState :
    ∃ t, exec .scale (withArg 5) = .next t ∧ Instr.scale ≠ .advance ∧ Instr.scale ≠ .mafUpdate ∧
      Instr.scale ≠ .batUpdate := ⟨_, rfl, by decide, by decide, by decide⟩
theorem test_witness_RegisterMapHasNoOverlap :
    0xBFC % 4 = 0 ∧ regAt 0xBFC = some (.sine 255) ∧ regAt 0x060 = some (.phase 8) ∧
    regAt 0x0B8 = some (.cfgResetPhase 2) ∧ regAt 0x064 = none ∧ regAt 0x0BC = none ∧ regAt 0xC00 = none := by decide
theorem test_witness_ConfigRegisterContents : (withArg 5).cfg.buildable = true := by decide
theorem test_witness_StepRunsTheDecodedCommand :
    (port [wr Config.testcfg .cmd 1]).cfg.buildable = true ∧ (port [wr Config.testcfg .cmd 1]).input =
      .access { kind := .write 1, addr := State.reset.cfg.base + 0x000, bits := 32 } :: [] ∧
    decode 1 = .ok .rmul := by decide
theorem test_witness_IllegalCommandChangesOnlyStatus :
    (port [wr Config.testcfg .cmd 6]).cfg.buildable = true ∧ (port [wr Config.testcfg .cmd 6]).input =
      .access { kind := .write 6, addr := State.reset.cfg.base + 0x000, bits := 32 } :: [] ∧ 6 ≤ (6#32).toNat := by
  decide
theorem test_witness_WrongWidthIsABusError :
    ∀ a ∈ [Access.mk .read 0x4000 16, Access.mk (.write 1) 0x4FFF 64],
      (State.resetWith moved).cfg.buildable = true ∧
      ((State.resetWith moved).setInput [.access a]).input = .access a :: [] ∧
      moved.base ≤ a.addr ∧ a.addr ≤ moved.base + 0xFFF ∧ a.bits ≠ 32 := by decide
theorem test_witness_MisalignedAccessIsABusError :
    ∀ a ∈ [Access.mk .read 0x4001 32, Access.mk (.write 1) 0x4FFF 32],
      (State.resetWith moved).cfg.buildable = true ∧
      ((State.resetWith moved).setInput [.access a]).input = .access a :: [] ∧
      moved.base ≤ a.addr ∧ a.addr ≤ moved.base + 0xFFF ∧ a.bits = 32 ∧ (a.addr - moved.base) % 4 ≠ 0 := by decide
theorem test_witness_ReadReturnsRegisterWithoutSideEffect :
    (port [acc .read 0xFFC 32]).input =
      .access { kind := .read, addr := State.reset.cfg.base + 0xFFC, bits := 32 } :: [] ∧
    0xFFC < 4096 ∧ 0xFFC % 4 = 0 ∧ offsetOf .status = 0x010 ∧ regAt 0xFFC = none := by decide
theorem test_witness_OnlyThreeRegistersTakeAWrite :
    ∀ o ∈ [0x000, 0x004, 0x008, 0x00C, 0xFFC], (port [acc (.write 7) o 32]).input =
      .access { kind := .write 7, addr := State.reset.cfg.base + o, bits := 32 } :: [] ∧ o < 4096 ∧ o % 4 = 0 := by
  decide
theorem test_witness_WhatDoesNotReachTheBlockIsRefused :
    (State.resetWith moved).cfg.buildable = true ∧ 0x3FFF < moved.base ∧ moved.base + 0xFFF < 0x5000 ∧
    (port [.brownOut]).input = .brownOut :: [] := by decide
theorem test_witness_NothingHappensWithoutAnAccess :
    (withArg 5).cfg.buildable = true ∧ (withArg 5).input = [] := by decide
theorem test_witness_ResetEventGivesTheResetState :
    (port [.reset]).cfg.buildable = true ∧ (port [.reset]).input = .reset :: [] := by decide
theorem test_witness_StepKeepsTheInvariant : (withArg 300).Inv ∧ ∃ t, step (withArg 300) = .next t :=
  ⟨test_witness_invariant, _, rfl⟩
theorem test_witness_OperandsKeepTheirValues :
    ∃ t, step (port [issue Config.testcfg .scale]) = .next t ∧
      (∀ rest, (port [issue Config.testcfg .scale]).input ≠ .reset :: rest) ∧
      (∀ w rest, (port [issue Config.testcfg .scale]).input ≠
        .access { kind := .write w, addr := State.reset.cfg.base + 0x004, bits := 32 } :: rest) :=
  ⟨_, rfl, (by intro rest h; cases h), (by intro w rest h; cases h)⟩
theorem test_witness_AcceptedEventsNeverStopTheBlock :
    (port [.reset, acc .read 0xFFF 8]).cfg.buildable = true ∧
    ∀ e ∈ (port [.reset, acc .read 0xFFF 8]).input, e = .reset ∨
      ∃ a : Access, e = .access a ∧ State.reset.cfg.base ≤ a.addr ∧ a.addr ≤ State.reset.cfg.base + 0xFFF := by
  refine ⟨by decide, fun e he => ?_⟩
  rcases List.mem_cons.mp he with rfl | h
  · exact .inl rfl
  · obtain rfl : e = acc .read 0xFFF 8 := List.mem_singleton.mp h
    exact .inr ⟨_, rfl, by decide, by decide⟩
theorem test_witness_ArgumentReadReturnsLastWrite :
    (port (wr Config.testcfg .arg0 9 :: ([issue Config.testcfg .advance] ++ [rd Config.testcfg .arg0]))).cfg.buildable
      = true ∧
    (port (wr Config.testcfg .arg0 9 :: ([issue Config.testcfg .advance] ++ [rd Config.testcfg .arg0]))).input =
      wr State.reset.cfg .arg0 9 :: ([issue Config.testcfg .advance] ++ [rd State.reset.cfg .arg0]) ∧
    ∃ a : Access, issue Config.testcfg .advance = .access a ∧ State.reset.cfg.base ≤ a.addr ∧
      a.addr ≤ State.reset.cfg.base + 0xFFF ∧ a.addr ≠ State.reset.cfg.base + 0x004 :=
  ⟨by decide, rfl, _, rfl, by decide, by decide, by decide⟩
theorem test_witness_RmulSequenceReadsItsProduct :
    (port (scriptRmul Config.testcfg 7600 3277 ++ [rd Config.testcfg .res])).cfg.buildable = true ∧
    (port (scriptRmul Config.testcfg 7600 3277 ++ [rd Config.testcfg .res])).input =
      scriptRmul State.reset.cfg 7600 3277 ++ [rd State.reset.cfg .res] := ⟨by decide, rfl⟩
theorem test_witness_HostFaultsExactlyWhenNotSerialized :
    State.reset.cfg.buildable = true ∧ ∀ x ∈ [stray .reset, inSeq 0 (acc .read 0xFFF 8)], x.event = .reset ∨
      ∃ a : Access, x.event = .access a ∧ State.reset.cfg.base ≤ a.addr ∧ a.addr ≤ State.reset.cfg.base + 0xFFF := by
  refine ⟨by decide, fun x hx => ?_⟩
  rcases List.mem_cons.mp hx with rfl | h
  · exact .inl rfl
  · obtain rfl := List.mem_singleton.mp h
    exact .inr ⟨_, rfl, by decide, by decide⟩
theorem test_witness_SerializedProgramRunsAsTheBlock :
    State.reset.cfg.buildable = true ∧ State.reset.input = [] ∧
    (∀ x ∈ [inSeq 0 (issue Config.testcfg .scale)], x.event = .reset ∨
      ∃ a : Access, x.event = .access a ∧ State.reset.cfg.base ≤ a.addr ∧ a.addr ≤ State.reset.cfg.base + 0xFFF) ∧
    Serialized State.reset.cfg [inSeq 0 (issue Config.testcfg .scale)] := by
  refine ⟨by decide, rfl, fun x hx => ?_, ?_⟩
  · obtain rfl := List.mem_singleton.mp hx
    exact .inr ⟨_, rfl, by decide, by decide⟩
  · intro q i j k x y z hij hjk _ hj _
    rw [List.getElem?_eq_none (by rw [List.length_singleton]; omega)] at hj
    cases hj
theorem test_witness_OperandsSurviveUntilTheCommand :
    (∀ x ∈ [stray (rd Config.testcfg .leds)], x.event ≠ .reset) ∧ ∃ h h' g g' : HostState,
      runHost [inSeq 0 (wr hosted.block.cfg .arg0 5), stray (rd Config.testcfg .leds)] hosted = .next h ∧
      hostStep (inSeq 0 (wr hosted.block.cfg .cmd 1)) h = .next g ∧
      runHost [inSeq 0 (wr hosted.block.cfg .arg1 5), stray (rd Config.testcfg .leds)] hosted = .next h' ∧
      hostStep (inSeq 0 (wr hosted.block.cfg .cmd 1)) h' = .next g' ∧
      ∀ x ∈ [stray (rd Config.testcfg .leds)], x.sequence ≠ some 0 :=
  ⟨by decide, _, _, _, _, rfl, rfl, rfl, rfl, by decide⟩
theorem test_witness_ResultSurvivesUntilItsRead :
    (∀ x ∈ [stray (wr Config.testcfg .res 9)], x.event ≠ .reset ∧ x.sequence ≠ some 0) ∧ ∃ h h' g : HostState,
      hostStep (inSeq 0 (wr hosted.block.cfg .cmd 4)) hosted = .next h ∧
      runHost [stray (wr Config.testcfg .res 9)] h = .next h' ∧
      hostStep (inSeq 0 (rd hosted.block.cfg .res)) h' = .next g :=
  ⟨by decide, _, _, _, rfl, rfl, rfl⟩
theorem test_witness_SequencesInTurnAreSerialized :
    ([CommandSequence.mk 0 [(false, 5)] 4 [.res], CommandSequence.mk 1 [] 0 []].map (·.number)).Nodup := by decide

end Sys2Proof.Tests
end

section
/-! What each condition on the parameters says as a proposition (R7), and which steps are refused as unbuildable (R8). -/

namespace Sys2Proof

theorem Config.periodOk_iff (c : Config) : c.periodOk = true ↔ 1 ≤ c.period ∧ c.period ≤ 65536 := by
  simp [Config.periodOk]

theorem Config.segmentsOk_iff (c : Config) :
    c.segmentsOk = true ↔ 1 ≤ c.segments ∧ c.segments ≤ 256 ∧ c.segments ∣ c.period := by
  simp [Config.segmentsOk, Nat.dvd_iff_mod_eq_zero, and_assoc]

theorem Config.subperiodOk_iff (c : Config) :
    c.subperiodOk = true ↔ 1 ≤ c.subperiod ∧ c.subperiod ∣ c.period / c.segments := by
  rw [Config.subperiodOk, Bool.and_eq_true, decide_eq_true_eq, decide_eq_true_eq, Config.win,
    Nat.dvd_iff_mod_eq_zero]

theorem Config.sineOk_iff (c : Config) :
    c.sineOk = true ↔ c.sineLut.length = c.segments ∧ ∀ v ∈ c.sineLut, v ≤ 255 := by
  simp [Config.sineOk]

/-- LOG2C is the exponent that makes C a power of two, and `C ≤ 256` bounds it by 8. -/
theorem Config.capacityOk_iff (c : Config) : c.capacityOk = true ↔ ∃ k, k ≤ 8 ∧ c.capacity = 2 ^ k := by
  have hle (k : Nat) : 2 ^ k ≤ 256 ↔ k ≤ 8 := Nat.pow_le_pow_iff_right (n := k) (m := 8) (by decide)
  rw [Config.capacityOk, Bool.and_eq_true, decide_eq_true_eq, decide_eq_true_eq, Config.log2C]
  constructor
  · rintro ⟨hpow, hcap⟩
    exact ⟨c.capacity.log2, (hle _).mp (hpow.le.trans hcap), hpow.symm⟩
  · rintro ⟨k, hk, hcap⟩
    rw [hcap, Nat.log2_two_pow]
    exact ⟨rfl, (hle k).mpr hk⟩

theorem Config.thresholdOk_iff (c : Config) : c.thresholdOk = true ↔ c.lowThreshold ≤ 2 ^ 32 - 1 := by
  simp only [Config.thresholdOk, decide_eq_true_eq]
  omega

theorem Config.guardOk_iff (c : Config) : c.guardOk = true ↔ c.guard ≤ 254 := by
  simp [Config.guardOk]

theorem Config.scalerOk_iff (c : Config) : c.scalerOk = true ↔ c.floor ≤ 255 ∧ c.slope ≤ 255 := by
  simp [Config.scalerOk]

theorem Config.resetPhaseOk_iff (c : Config) :
    c.resetPhaseOk = true ↔ ∀ t : Fin 3, c.resetPhase[t.val] < c.period := by
  simp [Config.resetPhaseOk, Fin.forall_fin_succ, and_assoc]

theorem Config.baseOk_iff (c : Config) : c.baseOk = true ↔ c.base % 4096 = 0 := by
  simp [Config.baseOk]

/-- R7's range `0..PERIOD-1` is "below PERIOD", because a buildable PERIOD is not 0. -/
theorem Config.resetPhaseOk_iff_le_pred {c : Config} (h : 1 ≤ c.period) :
    c.resetPhaseOk = true ↔ ∀ t : Fin 3, c.resetPhase[t.val] ≤ c.period - 1 := by
  simp only [c.resetPhaseOk_iff, Nat.lt_iff_le_pred h]

/-- A parameter set is buildable when each of its checks passes. -/
theorem Config.buildable_iff (c : Config) :
    c.buildable = true ↔ c.periodOk = true ∧ c.segmentsOk = true ∧ c.subperiodOk = true ∧ c.sineOk = true ∧
      c.capacityOk = true ∧ c.thresholdOk = true ∧ c.guardOk = true ∧ c.scalerOk = true ∧
      c.resetPhaseOk = true ∧ c.baseOk = true := by
  simp only [Config.buildable, Bool.and_eq_true, and_assoc]

end Sys2Proof

namespace Sys2Proof.Machine

/-- The only refusal of an access is that it lies outside the window. -/
theorem eq_outsideWindow_of_serve_refused {a : Access} {s : State} {r : Refusal} (h : serve a s = .refused r) :
    r = .outsideWindow := by
  by_cases hw : a.inWindow s.cfg = true
  · obtain ⟨t, ht⟩ := serve_next hw
    rw [ht] at h
    cases h
  · rw [serve, if_neg hw] at h
    cases h
    rfl

theorem step_of_not_buildable {s : State} (h : ¬ s.cfg.buildable = true) :
    step s = .refused .unbuildableConfig := by
  rw [step, serveNext, if_neg h]

/-- Which refusals a step of a buildable block has: those of what does not reach it. -/
theorem refusal_of_step_of_buildable {s : State} {r : Refusal} (hb : s.cfg.buildable = true)
    (h : step s = .refused r) : r = .outsideWindow ∨ r = .brownOut := by
  rw [step, serveNext, if_pos hb] at h
  split at h
  case h_1 => cases h
  case h_2 => exact .inl (eq_outsideWindow_of_serve_refused h)
  case h_3 => cases h
  case h_4 =>
    cases h
    exact .inr rfl

theorem step_eq_unbuildableConfig_iff (s : State) :
    step s = .refused .unbuildableConfig ↔ ¬ s.cfg.buildable = true := by
  refine ⟨fun h hb => ?_, step_of_not_buildable⟩
  obtain hr | hr := refusal_of_step_of_buildable hb h <;> cases hr

end Sys2Proof.Machine

namespace Sys2Proof.Proofs

open Sys2Proof.Machine

/-- Settles O43: only the check of the parameter set gives this refusal, and the check says what R7 says. -/
theorem unbuildableConfigurationIsRefused : Obligations.UnbuildableConfigurationIsRefused := by
  intro s
  rw [step_eq_unbuildableConfig_iff, Config.buildable_iff]
  simp only [Config.periodOk_iff, Config.segmentsOk_iff, Config.subperiodOk_iff, Config.sineOk_iff,
    Config.capacityOk_iff, Config.thresholdOk_iff, Config.guardOk_iff, Config.scalerOk_iff, Config.baseOk_iff]
  refine not_congr (and_congr_right fun ⟨hperiod, _⟩ => ?_)
  rw [Config.resetPhaseOk_iff_le_pred hperiod, and_assoc (a := s.cfg.floor ≤ 255)]

end Sys2Proof.Proofs
end

section
/-! What each command does to the state (R104, R135, R160, R170, R180, R190), which state it writes and which it reads
(R22 to R35, R45). -/

namespace Sys2Proof.Machine

/-! ### The state each command leads to -/

theorem commandEffect_nop (s : State) : commandEffect .nop s = s.clearStatus := rfl

theorem commandEffect_rmul (s : State) :
    commandEffect .rmul s = (s.setRes (mulShift16 s.arg0 s.arg1)).clearStatus := rfl

theorem commandEffect_advance (s : State) :
    commandEffect .advance s =
      (((advanceTriads s).setLeds ((advanceTriads s).onMask s.amplitude.toNat) s.ccMask).setRes
        (ledsWord ((advanceTriads s).onMask s.amplitude.toNat) s.ccMask)).clearStatus := rfl

theorem commandEffect_mafUpdate (s : State) :
    commandEffect .mafUpdate s =
      (((s.setRing s.cur.toNat s.sample).setCur (nextCursor s.cfg s.cur)).setRes
        (resultWord (ringSum (s.ring.set s.cur.toNat s.sample) >>> s.cfg.log2C))).clearStatus := rfl

theorem commandEffect_scale (s : State) :
    commandEffect .scale s = (s.setRes (resultWord (scaleCode s.cfg s.arg0.toNat))).clearStatus := rfl

/-- The count that BAT_UPDATE stores: less 1 above GUARD (R180). -/
def storedCount (c : Config) (count : Nat) : Nat := if batteryGood c count then count else count - 1

theorem commandEffect_batUpdate (s : State) :
    commandEffect .batUpdate s =
      ((s.setBattery (BitVec.ofNat 8 (storedCount s.cfg (debounceCount s.cfg s.arg0 s.batCnt)))
          (batteryGood s.cfg (debounceCount s.cfg s.arg0 s.batCnt))).setRes
        (resultWord (batteryGood s.cfg (debounceCount s.cfg s.arg0 s.batCnt)).toNat)).clearStatus := rfl

/-! ### What the advance of all triads leaves unchanged -/

@[simp] theorem advanceTriads_arg0 (s : State) : (advanceTriads s).arg0 = s.arg0 := by rw [advanceTriads_frame]
@[simp] theorem advanceTriads_arg1 (s : State) : (advanceTriads s).arg1 = s.arg1 := by rw [advanceTriads_frame]
@[simp] theorem advanceTriads_batGood (s : State) : (advanceTriads s).batGood = s.batGood := by
  rw [advanceTriads_frame]
@[simp] theorem advanceTriads_ring (s : State) : (advanceTriads s).ring = s.ring := by rw [advanceTriads_frame]
@[simp] theorem advanceTriads_cur (s : State) : (advanceTriads s).cur = s.cur := by rw [advanceTriads_frame]
@[simp] theorem advanceTriads_batCnt (s : State) : (advanceTriads s).batCnt = s.batCnt := by
  rw [advanceTriads_frame]
@[simp] theorem advanceTriads_input (s : State) : (advanceTriads s).input = s.input := by rw [advanceTriads_frame]
@[simp] theorem advanceTriads_response (s : State) : (advanceTriads s).response = s.response := by
  rw [advanceTriads_frame]

/-! ### Which state a command writes -/

/-- Every command ends with the status cleared (R25). -/
theorem commandEffect_status (i : Instr) (s : State) :
    (commandEffect i s).err = false ∧ (commandEffect i s).errCause = 0 := by
  cases i <;> exact ⟨rfl, rfl⟩

@[simp] theorem commandEffect_cfg (i : Instr) (s : State) : (commandEffect i s).cfg = s.cfg := by
  cases i with
  | advance => simp [commandEffect_advance]
  | nop | rmul | mafUpdate | scale | batUpdate => rfl

@[simp] theorem commandEffect_arg0 (i : Instr) (s : State) : (commandEffect i s).arg0 = s.arg0 := by
  cases i with
  | advance => simp [commandEffect_advance]
  | nop | rmul | mafUpdate | scale | batUpdate => rfl

@[simp] theorem commandEffect_arg1 (i : Instr) (s : State) : (commandEffect i s).arg1 = s.arg1 := by
  cases i with
  | advance => simp [commandEffect_advance]
  | nop | rmul | mafUpdate | scale | batUpdate => rfl

/-- No command touches the port. -/
theorem commandEffect_port (i : Instr) (s : State) :
    (commandEffect i s).input = s.input ∧ (commandEffect i s).response = s.response := by
  cases i with
  | advance => simp [commandEffect_advance]
  | nop | rmul | mafUpdate | scale | batUpdate => exact ⟨rfl, rfl⟩

/-- Only ADVANCE writes the animation's state (R28, R29, R32). -/
theorem commandEffect_animation {i : Instr} (h : i ≠ .advance) (s : State) :
    (commandEffect i s).act = s.act ∧ (commandEffect i s).phase = s.phase ∧
      (commandEffect i s).ledsOn = s.ledsOn ∧ (commandEffect i s).ledsCc = s.ledsCc := by
  cases i with
  | advance => exact absurd rfl h
  | nop | rmul | mafUpdate | scale | batUpdate => exact ⟨rfl, rfl, rfl, rfl⟩

/-- Only MAF_UPDATE writes the filter's state (R33, R34). -/
theorem commandEffect_filter {i : Instr} (h : i ≠ .mafUpdate) (s : State) :
    (commandEffect i s).ring = s.ring ∧ (commandEffect i s).cur = s.cur := by
  cases i with
  | mafUpdate => exact absurd rfl h
  | advance => simp [commandEffect_advance]
  | nop | rmul | scale | batUpdate => exact ⟨rfl, rfl⟩

/-- Only BAT_UPDATE writes the battery monitor's state (R26, R35). -/
theorem commandEffect_battery {i : Instr} (h : i ≠ .batUpdate) (s : State) :
    (commandEffect i s).batCnt = s.batCnt ∧ (commandEffect i s).batGood = s.batGood := by
  cases i with
  | batUpdate => exact absurd rfl h
  | advance => simp [commandEffect_advance]
  | nop | rmul | mafUpdate | scale => exact ⟨rfl, rfl⟩

/-! ### Which state a command reads -/

/-- The state with other status flags (R25, R26). -/
def State.withFlags (s : State) (e : Bool) (c : BitVec 2) (g : Bool) : State :=
  { s with err := e, errCause := c, batGood := g }

/-- The advance of a triad does not read the flags and carries them through. -/
theorem advanceTriad_withFlags (t : Fin 3) (s : State) (e : Bool) (c : BitVec 2) (g : Bool) :
    advanceTriad t (s.withFlags e c g) = (advanceTriad t s).withFlags e c g := by
  have hw : (s.withFlags e c g).wraps t = s.wraps t := rfl
  rw [advanceTriad, advanceTriad, hw]
  split <;> rfl

theorem advanceTriads_withFlags (s : State) (e : Bool) (c : BitVec 2) (g : Bool) :
    advanceTriads (s.withFlags e c g) = (advanceTriads s).withFlags e c g := by
  simp only [advanceTriads, advanceTriad_withFlags]

/-- A command on other flags: it clears ERR and ERRCAUSE all the same, and leaves BAT_GOOD as it was unless it is
BAT_UPDATE, which writes it. -/
theorem commandEffect_withFlags (i : Instr) (s : State) (e : Bool) (c : BitVec 2) (g : Bool) :
    commandEffect i (s.withFlags e c g) =
      { commandEffect i s with batGood := if i = .batUpdate then (commandEffect i s).batGood else g } := by
  cases i with
  | advance =>
    rw [commandEffect_advance, advanceTriads_withFlags]
    rfl
  | nop | rmul | mafUpdate | scale | batUpdate => rfl

end Sys2Proof.Machine

namespace Sys2Proof.Proofs

open Sys2Proof.Machine

/-- Settles O29. -/
theorem everyCommandCompletes : Obligations.EveryCommandCompletes :=
  fun i s => ⟨commandEffect i s, exec_eq_commandEffect i s, commandEffect_status i s⟩

/-- Settles O30, from the frame of each command. -/
theorem onlyItsCommandWritesEachState : Obligations.OnlyItsCommandWritesEachState := by
  intro i s t h
  rw [exec_eq_commandEffect] at h
  cases h
  obtain ⟨hinput, hresponse⟩ := commandEffect_port i s
  refine ⟨commandEffect_cfg i s, commandEffect_arg0 i s, commandEffect_arg1 i s, hinput, hresponse,
    fun hi => commandEffect_animation hi s, fun hi => commandEffect_filter hi s,
    fun hi => commandEffect_battery hi s, ?_⟩
  rintro rfl
  rfl

/-- Settles O31. -/
theorem noCommandReadsStatus : Obligations.NoCommandReadsStatus := fun i s e g c =>
  ⟨commandEffect i s, exec_eq_commandEffect i s,
    (exec_eq_commandEffect i _).trans (congrArg _ (commandEffect_withFlags i s e c g))⟩

end Sys2Proof.Proofs
end

section
/-! The register map: where each register stands and what it reads as (R30, R31, R38). -/

namespace Sys2Proof.Machine

/-! ### Where the registers stand -/

theorem offsetOf_aligned (r : Reg) : offsetOf r % 4 = 0 := by
  cases r <;> simp only [offsetOf] <;> omega

theorem offsetOf_lt (r : Reg) : offsetOf r < 4096 := by
  cases r <;> simp only [offsetOf] <;> omega

/-- Every register is found at its offset. -/
theorem regAt_offsetOf (r : Reg) : regAt (offsetOf r) = some r := by
  cases r with
  | phase l => revert l; decide
  | cfgResetPhase t => revert t; decide
  | ring i =>
    rw [regAt, dif_neg (by simp only [offsetOf]; omega), dif_neg (by simp only [offsetOf]; omega),
      dif_pos (by simp only [offsetOf]; omega)]
    simp [offsetOf]
  | sine i =>
    rw [regAt, dif_neg (by simp only [offsetOf]; omega), dif_neg (by simp only [offsetOf]; omega),
      dif_neg (by simp only [offsetOf]; omega), dif_pos (by simp only [offsetOf]; omega)]
    simp [offsetOf]
  | _ => rfl

theorem offsetOf_of_scalarRegAt {o : Nat} {r : Reg} (h : scalarRegAt o = some r) : offsetOf r = o := by
  unfold scalarRegAt at h
  split at h <;> cases h <;> rfl

/-- A register found at an aligned offset stands there. -/
theorem offsetOf_of_regAt {o : Nat} {r : Reg} (ho : o % 4 = 0) (h : regAt o = some r) : offsetOf r = o := by
  unfold regAt at h
  split_ifs at h with hphase hreset hring hsine
  case neg => exact offsetOf_of_scalarRegAt h
  all_goals
    cases h
    simp only [offsetOf]
    omega

theorem regAt_eq_some_iff {o : Nat} (ho : o % 4 = 0) (r : Reg) : regAt o = some r ↔ offsetOf r = o :=
  ⟨offsetOf_of_regAt ho, fun h => h ▸ regAt_offsetOf r⟩

/-! ### What the registers read as -/

/-- The port is no part of what a register shows. -/
@[simp] theorem State.setInput_readReg (s : State) (es : List Event) (r : Reg) :
    (s.setInput es).readReg r = s.readReg r := by
  cases r <;> rfl

theorem State.readWord_of_regAt {s : State} {o : Nat} {r : Reg} (h : regAt o = some r) :
    s.readWord o = s.readReg r := by
  rw [State.readWord, h]

theorem State.readWord_of_no_reg {s : State} {o : Nat} (h : regAt o = none) : s.readWord o = 0 := by
  rw [State.readWord, h]

theorem State.statusWord_toNat (s : State) :
    s.statusWord.toNat = s.err.toNat + 2 * s.batGood.toNat + 16 * s.errCause.toNat := by
  rw [State.statusWord]
  generalize s.errCause = c
  cases s.batGood <;> cases s.err <;> revert c <;> decide

/-- The mask of one LED in each triad, as the sum of its bits' weights. -/
theorem activeMask_toNat_of_members : ∀ a b c : Fin 3,
    ((ledBit (ledIndex 0 a) true ||| ledBit (ledIndex 1 b) true ||| ledBit (ledIndex 2 c) true).setWidth 32).toNat =
      2 ^ (ledIndex 0 a).val + 2 ^ (ledIndex 1 b).val + 2 ^ (ledIndex 2 c).val := by
  decide

/-- Three members, each in its field of ACTIDX. -/
theorem actIdx_toNat_of_members : ∀ a b c : Fin 3,
    (0#14 ++ BitVec.ofNat 2 c.val ++ 0#6 ++ BitVec.ofNat 2 b.val ++ 0#6 ++ BitVec.ofNat 2 a.val).toNat =
      a.val + 256 * b.val + 65536 * c.val := by
  decide

theorem State.ringSlot_toNat (s : State) (i : Nat) :
    (s.ringSlot i).toNat = if i < s.cfg.capacity then (s.ring.getD i 0).toNat else 0 := by
  rw [State.ringSlot]
  split <;> rfl

/-! ### The LEDs of a triad -/

/-- Every LED is a member of a triad. -/
theorem exists_ledIndex_eq : ∀ l : Fin 9, ∃ t m : Fin 3, ledIndex t m = l := by
  decide

theorem State.activeMask_getLsbD (s : State) (t m : Fin 3) :
    s.activeMask.getLsbD (ledIndex t m).val = decide (m = s.act[t.val]) := by
  rw [State.activeMask, State.activeLed, State.activeLed, State.activeLed,
    triadMask_getLsbD (fun k => s.act[k.val]) (fun _ => true), Bool.and_true]

end Sys2Proof.Machine

namespace Sys2Proof

/-! ### The sizes of the parameters (R7) -/

theorem Config.period_bounds {c : Config} (h : c.buildable = true) : 1 ≤ c.period ∧ c.period ≤ 65536 :=
  c.periodOk_iff.mp (c.buildable_iff.mp h).1

/-- LOG2C is the exponent of C. -/
theorem Config.two_pow_log2C {c : Config} (h : c.buildable = true) : 2 ^ c.log2C = c.capacity := by
  simp only [Config.buildable_iff, Config.capacityOk, Bool.and_eq_true, decide_eq_true_eq] at h
  obtain ⟨-, -, -, -, ⟨hpow, -⟩, -⟩ := h
  exact hpow

/-- C is a power of two, so it is not 0. -/
theorem Config.capacity_bounds {c : Config} (h : c.buildable = true) : 1 ≤ c.capacity ∧ c.capacity ≤ 256 := by
  refine ⟨Config.two_pow_log2C h ▸ Nat.one_le_two_pow, ?_⟩
  simp only [Config.buildable_iff, Config.capacityOk, Bool.and_eq_true, decide_eq_true_eq] at h
  obtain ⟨-, -, -, -, ⟨-, hle⟩, -⟩ := h
  exact hle

theorem Config.win_le_period (c : Config) : c.win ≤ c.period := Nat.div_le_self _ _

/-- SUBPERIOD divides WIN, which is not 0. -/
theorem Config.subperiod_le_period {c : Config} (h : c.buildable = true) : c.subperiod ≤ c.period := by
  simp only [Config.buildable_iff, Config.periodOk_iff, Config.segmentsOk_iff, Config.subperiodOk_iff] at h
  obtain ⟨⟨hperiod, -⟩, ⟨hsegments, -, hdvd⟩, ⟨-, hsub⟩, -⟩ := h
  have hwin : 0 < c.period / c.segments := Nat.div_pos (Nat.le_of_dvd hperiod hdvd) hsegments
  exact (Nat.le_of_dvd hwin hsub).trans c.win_le_period

/-- A sample is at most 255, in and past the table. -/
theorem Config.sineLut_getD_le {c : Config} (h : c.sineOk = true) (i : Nat) : c.sineLut.getD i 0 ≤ 255 := by
  obtain ⟨-, hle⟩ := c.sineOk_iff.mp h
  by_cases hi : i < c.sineLut.length
  · rw [List.getD_eq_getElem _ _ hi]
    exact hle _ (List.getElem_mem hi)
  · rw [List.getD_eq_default _ _ (not_lt.mp hi)]
    exact Nat.zero_le _

theorem Config.sample_le {c : Config} (h : c.sineOk = true) (i : Nat) : c.sample i ≤ 255 := by
  rw [Config.sample]
  split
  · exact Config.sineLut_getD_le h i
  · exact Nat.zero_le _

/-- A parameter below 2^32 is read uncut. -/
theorem word_toNat_of_lt {n : Nat} (h : n < 2 ^ 32) : (BitVec.ofNat 32 n).toNat = n := by
  rw [BitVec.toNat_ofNat, Nat.mod_eq_of_lt h]

end Sys2Proof

namespace Sys2Proof.Proofs

open Sys2Proof.Machine

/-- Settles O15. -/
theorem ledNumbering : Obligations.LedNumbering := by
  refine ⟨fun t m => ?_, exists_ledIndex_eq, fun t m t' m' h => ?_⟩
  · simp only [ledIndex]
    omega
  · obtain ⟨ht, hm⟩ := (ledIndex_val_eq_iff t m t' m').mp (congrArg Fin.val h)
    exact ⟨ht.symm, hm.symm⟩

/-- Settles O16. -/
theorem activeMaskHasOneLedPerTriad : Obligations.ActiveMaskHasOneLedPerTriad :=
  fun s t m => s.activeMask_getLsbD t m

/-- Settles O33. -/
theorem registerMapHasNoOverlap : Obligations.RegisterMapHasNoOverlap :=
  ⟨fun r => ⟨regAt_offsetOf r, offsetOf_aligned r, offsetOf_lt r⟩, fun _ _ ho h => offsetOf_of_regAt ho h⟩

/-- Settles O34. -/
theorem stateRegisterContents : Obligations.StateRegisterContents := by
  intro s
  refine ⟨rfl, rfl, rfl, rfl, s.statusWord_toNat, ledsWord_toNat _ _, activeMask_toNat_of_members _ _ _,
    actIdx_toNat_of_members _ _ _, ?_, ?_, fun l => ?_, fun i => ?_⟩
  · exact BitVec.toNat_setWidth_of_le (by decide)
  · exact BitVec.toNat_setWidth_of_le (by decide)
  · exact BitVec.toNat_setWidth_of_le (by decide)
  · exact (BitVec.toNat_setWidth_of_le (by decide)).trans (s.ringSlot_toNat i.val)

/-- Settles O35: R7's ranges keep every number below 2^32. -/
theorem configRegisterContents : Obligations.ConfigRegisterContents := by
  intro s h
  have hperiod := Config.period_bounds h
  have hwin := s.cfg.win_le_period
  have hsubperiod := Config.subperiod_le_period h
  have hcapacity := Config.capacity_bounds h
  have hpow := Config.two_pow_log2C h
  have hlog := Nat.lt_two_pow_self (n := s.cfg.log2C)
  simp only [Config.buildable_iff, Config.segmentsOk_iff, Config.subperiodOk_iff, Config.thresholdOk_iff,
    Config.guardOk_iff, Config.scalerOk_iff, Config.resetPhaseOk_iff] at h
  obtain ⟨-, ⟨hsegments, hsegments', -⟩, ⟨hsub, -⟩, hsine, -, hthreshold, hguard, ⟨hfloor, hslope⟩, hreset, -⟩ := h
  refine ⟨word_toNat_of_lt (by omega), word_toNat_of_lt (by omega), word_toNat_of_lt (by omega),
    word_toNat_of_lt (by omega), word_toNat_of_lt ?rcSeg, word_toNat_of_lt ?rcSub, word_toNat_of_lt (by omega),
    ?log2C, word_toNat_of_lt (by omega), word_toNat_of_lt (by omega), word_toNat_of_lt (by omega),
    word_toNat_of_lt (by omega), fun t => word_toNat_of_lt ?resetPhase, fun i => word_toNat_of_lt ?sine⟩
  case rcSeg => exact (recip_le _ hsegments).trans_lt (by decide)
  case rcSub => exact (recip_le _ hsub).trans_lt (by decide)
  case log2C => exact (congrArg (2 ^ ·) (word_toNat_of_lt (by omega))).trans hpow
  case resetPhase =>
    have := hreset t
    omega
  case sine => exact (Config.sample_le hsine i.val).trans_lt (by decide)

end Sys2Proof.Proofs
end

section
/-! What a step does at an aligned 32-bit access to the window, and what it can do to the operand registers (R22, R23,
R39, R40, R44, R64). -/

namespace Sys2Proof.Machine

/-! ### Accesses given by their offset -/

@[simp] theorem Access.offset_base_add (k : AccessKind) (c : Config) (o bits : Nat) :
    Access.offset { kind := k, addr := c.base + o, bits := bits } c = o :=
  Nat.add_sub_cancel_left _ _

theorem Access.inWindow_base_add (k : AccessKind) (c : Config) {o : Nat} (bits : Nat) (ho : o < 4096) :
    Access.inWindow { kind := k, addr := c.base + o, bits := bits } c = true :=
  (Access.inWindow_iff _ c).mpr ⟨Nat.le_add_right _ _, Nat.add_lt_add_left ho _⟩

theorem Access.busError_base_add (k : AccessKind) (c : Config) {o : Nat} (ha : o % 4 = 0) :
    Access.busError { kind := k, addr := c.base + o, bits := 32 } c = none := by
  rw [Access.busError_eq_none_iff, Nat.add_sub_cancel_left]
  exact ⟨rfl, ha⟩

/-- An access that is accepted is a 32-bit one at an aligned offset of the window. -/
theorem Access.eq_of_accepted {a : Access} {c : Config} (hw : a.inWindow c = true) (hn : a.busError c = none) :
    a = { kind := a.kind, addr := c.base + a.offset c, bits := 32 } ∧ a.offset c % 4 = 0 := by
  obtain ⟨hbase, -⟩ := (a.inWindow_iff c).mp hw
  obtain ⟨hbits, halign⟩ := (a.busError_eq_none_iff c).mp hn
  have haddr : c.base + a.offset c = a.addr := Nat.add_sub_cancel' hbase
  rw [haddr, ← hbits]
  exact ⟨rfl, halign⟩

/-- A step at an aligned 32-bit read (R39). -/
theorem step_read {s : State} {o : Nat} {rest : List Event} (hb : s.cfg.buildable = true)
    (hi : s.input = .access { kind := .read, addr := s.cfg.base + o, bits := 32 } :: rest)
    (ho : o < 4096) (ha : o % 4 = 0) :
    step s = .next ((s.setInput rest).respond (.readData ((s.setInput rest).readWord o))) := by
  rw [step_access hb hi, serve, State.setInput_cfg, if_pos (Access.inWindow_base_add _ _ _ ho),
    Access.busError_base_add _ _ ha, Access.offset_base_add]

/-- A step at an aligned 32-bit write (R40). -/
theorem step_write {s : State} {o : Nat} {w : Word} {rest : List Event} (hb : s.cfg.buildable = true)
    (hi : s.input = .access { kind := .write w, addr := s.cfg.base + o, bits := 32 } :: rest)
    (ho : o < 4096) (ha : o % 4 = 0) :
    step s = writeWord o w ((s.setInput rest).respond .written) := by
  rw [step_access hb hi, serve, State.setInput_cfg, if_pos (Access.inWindow_base_add _ _ _ ho),
    Access.busError_base_add _ _ ha, Access.offset_base_add]

theorem step_of_input_nil {s : State} (hb : s.cfg.buildable = true) (hi : s.input = []) : step s = .next s := by
  rw [step, serveNext, if_pos hb, hi]

/-- Past ARG1 no register takes a write (R40). -/
theorem writeWord_of_read_only {o : Nat} (w : Word) (s : State) (ha : o % 4 = 0) (h : 0x00C ≤ o) :
    writeWord o w s = .next s := by
  have hne {r : Reg} (hr : offsetOf r < 0x00C) : regAt o ≠ some r := fun e => by
    rw [regAt_eq_some_iff ha] at e
    omega
  unfold writeWord
  split
  case h_1 e => exact absurd e (hne (by decide))
  case h_2 e => exact absurd e (hne (by decide))
  case h_3 e => exact absurd e (hne (by decide))
  case h_4 => rfl

/-! ### The operand registers -/

/-- What an aligned write can do to the operand registers. -/
theorem writeWord_operands {o : Nat} {w : Word} {s t : State} (ha : o % 4 = 0) (h : writeWord o w s = .next t) :
    (o = 0x004 ∧ t.arg1 = s.arg1) ∨ (o = 0x008 ∧ t.arg0 = s.arg0) ∨ (t.arg0 = s.arg0 ∧ t.arg1 = s.arg1) := by
  obtain ⟨i, -, -, rfl⟩ | ⟨c, -, -, rfl⟩ | ⟨hr, rfl⟩ | ⟨hr, rfl⟩ | rfl := writeWord_cases h
  · exact .inr (.inr ⟨commandEffect_arg0 i s, commandEffect_arg1 i s⟩)
  · exact .inr (.inr ⟨rfl, rfl⟩)
  · exact .inl ⟨(offsetOf_of_regAt ha hr).symm, rfl⟩
  · exact .inr (.inl ⟨(offsetOf_of_regAt ha hr).symm, rfl⟩)
  · exact .inr (.inr ⟨rfl, rfl⟩)

/-- What serving an access can do to the operand registers. -/
theorem serve_operands {a : Access} {s t : State} (h : serve a s = .next t) :
    (∃ w, a = { kind := .write w, addr := s.cfg.base + 0x004, bits := 32 } ∧ t.arg1 = s.arg1) ∨
    (∃ w, a = { kind := .write w, addr := s.cfg.base + 0x008, bits := 32 } ∧ t.arg0 = s.arg0) ∨
    (t.arg0 = s.arg0 ∧ t.arg1 = s.arg1) := by
  obtain ⟨hw, ⟨e, -, rfl⟩ | ⟨-, -, rfl⟩ | ⟨w, hn, hk, hwrite⟩⟩ := serve_cases h
  · exact .inr (.inr ⟨rfl, rfl⟩)
  · exact .inr (.inr ⟨rfl, rfl⟩)
  · obtain ⟨hacc, ha⟩ := Access.eq_of_accepted hw hn
    rw [hk] at hacc
    obtain ⟨ho, harg⟩ | ⟨ho, harg⟩ | hargs := writeWord_operands ha hwrite
    · exact .inl ⟨w, ho ▸ hacc, harg⟩
    · exact .inr (.inl ⟨w, ho ▸ hacc, harg⟩)
    · exact .inr (.inr hargs)

/-- What a step other than a reset can do to the operand registers: a 32-bit write to one leaves the other, and
anything else leaves both. -/
theorem step_operands {s t : State} (h : step s = .next t) :
    (∃ rest, s.input = .reset :: rest) ∨
    (∃ w rest, s.input = .access { kind := .write w, addr := s.cfg.base + 0x004, bits := 32 } :: rest ∧
      t.arg1 = s.arg1) ∨
    (∃ w rest, s.input = .access { kind := .write w, addr := s.cfg.base + 0x008, bits := 32 } :: rest ∧
      t.arg0 = s.arg0) ∨
    (t.arg0 = s.arg0 ∧ t.arg1 = s.arg1) := by
  obtain ⟨-, ⟨-, rfl⟩ | ⟨a, rest, hi, hserve⟩ | ⟨rest, hi, -⟩⟩ := step_cases h
  · exact .inr (.inr (.inr ⟨rfl, rfl⟩))
  · obtain ⟨w, rfl, harg⟩ | ⟨w, rfl, harg⟩ | hargs := serve_operands hserve
    · exact .inr (.inl ⟨w, rest, hi, harg⟩)
    · exact .inr (.inr (.inl ⟨w, rest, hi, harg⟩))
    · exact .inr (.inr (.inr hargs))
  · exact .inl ⟨rest, hi⟩

end Sys2Proof.Machine

namespace Sys2Proof.Proofs

open Sys2Proof.Machine

/-- Settles O40: the word read is that of the one register at the offset. -/
theorem readReturnsRegisterWithoutSideEffect : Obligations.ReadReturnsRegisterWithoutSideEffect := by
  intro s o rest hb hi ho ha
  refine ⟨(s.setInput rest).readWord o, step_read hb hi ho ha, fun r hr => ?_, fun hr => ?_⟩
  · rw [State.readWord_of_regAt ((regAt_eq_some_iff ha r).mpr hr), State.setInput_readReg]
  · refine State.readWord_of_no_reg (Option.eq_none_iff_forall_ne_some.mpr fun r h => hr r ?_)
    exact offsetOf_of_regAt ha h

/-- Settles O41. -/
theorem onlyThreeRegistersTakeAWrite : Obligations.OnlyThreeRegistersTakeAWrite := by
  intro s o w rest hb hi ho ha
  rw [step_write hb hi ho ha]
  refine ⟨?cmd, ?arg0, ?arg1, fun h => writeWord_of_read_only w _ ha h⟩
  all_goals
    rintro rfl
    rfl

/-- Settles O44. -/
theorem nothingHappensWithoutAnAccess : Obligations.NothingHappensWithoutAnAccess :=
  fun _ hb hi => step_of_input_nil hb hi

/-- Settles O50, by what a step can do to the operand registers. -/
theorem operandsKeepTheirValues : Obligations.OperandsKeepTheirValues := by
  intro s t h hreset
  obtain ⟨rest, hi⟩ | ⟨w, rest, hi, harg⟩ | ⟨w, rest, hi, harg⟩ | ⟨harg0, harg1⟩ := step_operands h
  · exact absurd hi (hreset rest)
  · exact ⟨fun hno => absurd hi (hno w rest), fun _ => harg⟩
  · exact ⟨fun _ => harg, fun hno => absurd hi (hno w rest)⟩
  · exact ⟨fun _ => harg0, fun _ => harg1⟩

end Sys2Proof.Proofs
end

section
/-! The invariant of R42: it holds at reset (R43) and every step keeps it. -/

namespace Sys2Proof.Machine

/-! ### Reset -/

/-- The phases that reset writes: RESET_PHASE for the first member of each triad, 0 for the others (R43). -/
theorem State.resetWith_phase (c : Config) (t m : Fin 3) :
    (State.resetWith c).phase[(ledIndex t m).val] =
      if m = 0 then BitVec.ofNat 16 c.resetPhase[t.val] else 0 := by
  have ht : t = 0 ∨ t = 1 ∨ t = 2 := by revert t; decide
  have hm : m = 0 ∨ m = 1 ∨ m = 2 := by revert m; decide
  obtain rfl | rfl | rfl := ht <;> obtain rfl | rfl | rfl := hm <;> rfl

theorem State.resetWith_act_getElem (c : Config) (t : Fin 3) : (State.resetWith c).act[t.val] = 0 := by
  have ht : t = 0 ∨ t = 1 ∨ t = 2 := by revert t; decide
  obtain rfl | rfl | rfl := ht <;> rfl

/-- A RESET_PHASE of a buildable block is below PERIOD and fits its 16 bits. -/
theorem resetPhase_toNat {c : Config} (h : c.buildable = true) (t : Fin 3) :
    (BitVec.ofNat 16 c.resetPhase[t.val]).toNat = c.resetPhase[t.val] ∧ c.resetPhase[t.val] < c.period := by
  simp only [Config.buildable_iff, Config.periodOk_iff, Config.resetPhaseOk_iff] at h
  obtain ⟨⟨-, hperiod⟩, -, -, -, -, -, -, -, hreset, -⟩ := h
  refine ⟨?_, hreset t⟩
  rw [BitVec.toNat_ofNat, Nat.mod_eq_of_lt ((hreset t).trans_le hperiod)]

/-- The reset state of a buildable block satisfies the invariant. -/
theorem State.inv_resetWith {c : Config} (h : c.buildable = true) : (State.resetWith c).Inv where
  buildable := h
  phaseBound l := by
    obtain ⟨t, m, rfl⟩ := exists_ledIndex_eq l
    obtain ⟨hphase, hlt⟩ := resetPhase_toNat h t
    rw [State.resetWith_phase]
    split
    · rw [hphase]
      exact hlt
    · exact (Config.period_bounds h).1
  inactiveZero t m hm := by
    rw [State.resetWith_act_getElem] at hm
    rw [State.resetWith_phase, if_neg hm]
  ringLength := List.length_replicate
  curBound := (Config.capacity_bounds h).1
  batBound := Nat.zero_le _
  errIff := iff_of_true rfl rfl
  causeLegal := by rw [State.resetWith_errCause]; decide

/-! ### The writes of the commands -/

theorem State.Inv.setArg0 {s : State} (h : s.Inv) (v : Word) : (s.setArg0 v).Inv := { h with }

theorem State.Inv.setArg1 {s : State} (h : s.Inv) (v : Word) : (s.setArg1 v).Inv := { h with }

theorem State.Inv.setRes {s : State} (h : s.Inv) (v : Word) : (s.setRes v).Inv := { h with }

theorem State.Inv.setLeds {s : State} (h : s.Inv) (on cc : LedMask) : (s.setLeds on cc).Inv := { h with }

theorem State.Inv.respond {s : State} (h : s.Inv) (r : Response) : (s.respond r).Inv := { h with }

theorem State.Inv.setInput {s : State} (h : s.Inv) (es : List Event) : (s.setInput es).Inv := { h with }

theorem State.Inv.setStatus {s : State} (h : s.Inv) {e : Bool} {c : BitVec 2} (herr : c = 0 ↔ e = false)
    (hcause : c ≠ 3) : (s.setStatus e c).Inv :=
  { h with errIff := herr, causeLegal := hcause }

theorem State.Inv.clearStatus {s : State} (h : s.Inv) : s.clearStatus.Inv :=
  h.setStatus (by decide) (by decide)

theorem State.Inv.setRing {s : State} (h : s.Inv) (i : Nat) (v : Byte) : (s.setRing i v).Inv :=
  { h with ringLength := List.length_set.trans h.ringLength }

theorem State.Inv.setCur {s : State} (h : s.Inv) {v : Byte} (hv : v.toNat < s.cfg.capacity) : (s.setCur v).Inv :=
  { h with curBound := hv }

theorem State.Inv.setBattery {s : State} (h : s.Inv) {n : Byte} (hn : n.toNat ≤ s.cfg.guard) (good : Bool) :
    (s.setBattery n good).Inv :=
  { h with batBound := hn }

/-- The cursor stays in the ring, and its 8 bits hold it (R34). -/
theorem nextCursor_lt {c : Config} (h : c.buildable = true) (cur : Byte) :
    (nextCursor c cur).toNat < c.capacity := by
  obtain ⟨hpos, hle⟩ := Config.capacity_bounds h
  have hlt : (cur.toNat + 1) % c.capacity < c.capacity := Nat.mod_lt _ hpos
  rw [nextCursor, BitVec.toNat_ofNat, Nat.mod_eq_of_lt (hlt.trans_le hle)]
  exact hlt

/-- A count of at most GUARD stays at most GUARD: only GUARD + 1 is above, and it is stored less 1 (R180). -/
theorem storedCount_le {c : Config} {raw : Word} {n : Byte} (hn : n.toNat ≤ c.guard) :
    storedCount c (debounceCount c raw n) ≤ c.guard := by
  have hcount : debounceCount c raw n ≤ c.guard + 1 := by
    unfold debounceCount
    split <;> omega
  rw [storedCount]
  split
  · next hgood => simpa [batteryGood] using hgood
  · omega

/-- A phase that does not wrap stays below PERIOD after its step, which its 16 bits hold. -/
theorem phase_add_one_toNat_le {p : Phase} {n : Nat} (hle : p.toNat + 1 ≤ n) (hne : p.toNat + 1 ≠ n)
    (hn : n ≤ 65536) : (p + 1).toNat + 1 ≤ n := by
  have hadd : (p + 1).toNat = (p.toNat + 1) % 65536 := BitVec.toNat_add p 1
  omega

/-- One tick keeps every phase below PERIOD: the one that would reach it wraps (R133, R136). -/
theorem State.Inv.advanceTriads_phase_le {s : State} (h : s.Inv) (t m : Fin 3) :
    (advanceTriads s).phase[(ledIndex t m).val].toNat + 1 ≤ s.cfg.period := by
  obtain ⟨hpos, hle⟩ := Config.period_bounds h.buildable
  rw [advanceTriads_phase]
  split_ifs with hwrap hmember hactive
  · exact hpos
  · exact h.phaseBound _
  · subst hactive
    rw [State.wraps_iff] at hwrap
    exact phase_add_one_toNat_le (h.phaseBound _) hwrap hle
  · exact h.phaseBound _

/-- One tick leaves the phase of every LED that is not active at 0: a wrap sets the old member's to 0 (R133). -/
theorem State.Inv.advanceTriads_phase_eq_zero {s : State} (h : s.Inv) {t m : Fin 3}
    (hm : m ≠ (advanceTriads s).act[t.val]) : (advanceTriads s).phase[(ledIndex t m).val] = 0 := by
  rw [advanceTriads_act] at hm
  rw [advanceTriads_phase]
  split_ifs at hm ⊢ with hwrap hmember hactive
  · rfl
  · exact h.inactiveZero t m fun hactive => hmember (.inl hactive)
  · exact absurd hactive hm
  · exact h.inactiveZero t m hm

theorem State.Inv.after_advanceTriads {s : State} (h : s.Inv) : (advanceTriads s).Inv := by
  have hbound (l : Fin 9) : (advanceTriads s).phase[l.val].toNat + 1 ≤ s.cfg.period := by
    obtain ⟨t, m, rfl⟩ := exists_ledIndex_eq l
    exact h.advanceTriads_phase_le t m
  have hzero (t m : Fin 3) := h.advanceTriads_phase_eq_zero (t := t) (m := m)
  rw [advanceTriads_frame]
  exact { h with phaseBound := hbound, inactiveZero := hzero }

/-- Every command keeps the invariant. -/
theorem State.Inv.after_commandEffect {s : State} (h : s.Inv) (i : Instr) : (commandEffect i s).Inv := by
  cases i with
  | nop =>
    rw [commandEffect_nop]
    exact h.clearStatus
  | rmul =>
    rw [commandEffect_rmul]
    exact (h.setRes _).clearStatus
  | advance =>
    rw [commandEffect_advance]
    exact ((h.after_advanceTriads.setLeds _ _).setRes _).clearStatus
  | mafUpdate =>
    rw [commandEffect_mafUpdate]
    exact (((h.setRing _ _).setCur (nextCursor_lt h.buildable _)).setRes _).clearStatus
  | scale =>
    rw [commandEffect_scale]
    exact (h.setRes _).clearStatus
  | batUpdate =>
    rw [commandEffect_batUpdate]
    refine ((h.setBattery ?_ _).setRes _).clearStatus
    rw [BitVec.toNat_ofNat]
    exact (Nat.mod_le _ _).trans (storedCount_le h.batBound)

theorem State.Inv.after_takeIllegal {s : State} (h : s.Inv) (c : IllegalCause) : (takeIllegal c s).Inv :=
  (h.setRes 0).setStatus (iff_of_false (causeCode_ne_zero c) (by decide)) (causeCode_ne_three c)

/-! ### The step -/

theorem State.Inv.after_writeWord {s t : State} (h : s.Inv) {o : Nat} {w : Word} (hw : writeWord o w s = .next t) :
    t.Inv := by
  obtain ⟨i, -, -, rfl⟩ | ⟨c, -, -, rfl⟩ | ⟨-, rfl⟩ | ⟨-, rfl⟩ | rfl := writeWord_cases hw
  · exact h.after_commandEffect i
  · exact h.after_takeIllegal c
  · exact h.setArg0 w
  · exact h.setArg1 w
  · exact h

theorem State.Inv.after_serve {s t : State} (h : s.Inv) {a : Access} (hs : serve a s = .next t) : t.Inv := by
  obtain ⟨-, ⟨e, -, rfl⟩ | ⟨-, -, rfl⟩ | ⟨w, -, -, hw⟩⟩ := serve_cases hs
  · exact h.respond _
  · exact h.respond _
  · exact (h.respond _).after_writeWord hw

theorem State.Inv.after_step {s t : State} (h : s.Inv) (hs : step s = .next t) : t.Inv := by
  obtain ⟨hb, ⟨-, rfl⟩ | ⟨a, rest, -, hserve⟩ | ⟨rest, -, rfl⟩⟩ := step_cases hs
  · exact h
  · exact (h.setInput rest).after_serve hserve
  · exact (State.inv_resetWith hb).setInput rest

end Sys2Proof.Machine

namespace Sys2Proof.Proofs

open Sys2Proof.Machine

/-- Settles O45. -/
theorem resetValues : Obligations.ResetValues := by
  intro c h
  refine ⟨State.resetWith c, rfl, rfl, rfl, rfl, rfl, rfl, rfl, rfl, rfl, State.resetWith_act_getElem c, ?_, ?_,
    List.length_replicate, fun v hv => List.eq_of_mem_replicate hv, rfl, rfl, rfl⟩
  · intro t
    exact (congrArg BitVec.toNat (State.resetWith_phase c t 0)).trans (resetPhase_toNat h t).1
  · intro l hl
    obtain ⟨t, m, rfl⟩ := exists_ledIndex_eq l
    have hm : m ≠ 0 := by
      rintro rfl
      exact absurd t.isLt (not_lt.mpr hl)
    rw [State.resetWith_phase, if_neg hm]

/-- Settles O47. -/
theorem resetStateHasTheInvariant : Obligations.ResetStateHasTheInvariant :=
  ⟨fun _ h => State.inv_resetWith h, State.inv_resetWith (by decide)⟩

/-- Settles O48: each access, illegal command, bus error and reset keeps the invariant. -/
theorem stepKeepsTheInvariant : Obligations.StepKeepsTheInvariant := fun _ _ h hs => h.after_step hs

end Sys2Proof.Proofs
end

section
/-! The encoding of a command word: its byte lanes (R65), its fields (R81), and the agreement of decoder and encoder
(R82, R83, R88). -/

namespace Sys2Proof

/-! ### Byte lanes -/

theorem lane_toNat (w : Word) (k : Nat) : (lane w k).toNat = w.toNat / 256 ^ k % 256 := by
  rw [lane, BitVec.extractLsb'_toNat, Nat.shiftRight_eq_div_pow, Nat.pow_mul]

/-- Two words side by side, as one number. -/
theorem append_toNat {m n : Nat} (x : BitVec m) (y : BitVec n) : (x ++ y).toNat = x.toNat * 2 ^ n + y.toNat := by
  rw [BitVec.toNat_append, ← Nat.shiftLeft_add_eq_or_of_lt y.isLt, Nat.shiftLeft_eq]

theorem wordOfLanes_lanes (w : Word) : wordOfLanes (lanes w) = some w := by
  refine congrArg some (BitVec.eq_of_toNat_eq ?_)
  have hw := w.isLt
  simp only [append_toNat, lane_toNat]
  omega

/-- Four bytes are the lanes of the word they make. -/
theorem eq_lanes_of_wordOfLanes {bs : List Byte} {w : Word} (h : wordOfLanes bs = some w) : bs = lanes w := by
  unfold wordOfLanes at h
  split at h
  case h_2 => cases h
  case h_1 b0 b1 b2 b3 =>
    cases h
    have h0 := b0.isLt
    have h1 := b1.isLt
    have h2 := b2.isLt
    have h3 := b3.isLt
    simp only [lanes, List.cons.injEq, ← BitVec.toNat_inj, lane_toNat, append_toNat, and_true]
    omega

/-! ### Fields -/

theorem fieldsOf_wordOfFields (f : CmdWord) : fieldsOf (wordOfFields f) = f :=
  congrArg₂ CmdWord.mk (BitVec.extractLsb'_append_eq_right (a := f.rsv) (b := f.op))
    (BitVec.extractLsb'_append_eq_left (a := f.rsv) (b := f.op))

theorem wordOfFields_fieldsOf (w : Word) : wordOfFields (fieldsOf w) = w :=
  (BitVec.extractLsb'_append_extractLsb'_eq_extractLsb' (x := w) (start₁ := 0) (len₁ := 4) (len₂ := 28) rfl).trans
    BitVec.extractLsb'_eq_self

/-! ### Decoder and encoder -/

theorem instrOfOpcode_eq_some_iff (op : BitVec 4) (i : Instr) : instrOfOpcode op = some i ↔ op = opcodeOf i := by
  revert op
  cases i <;> decide

/-- The decoder reads a command from one word only, its encoded word (R83). -/
theorem decode_eq_ok_iff (w : Word) (i : Instr) : decode w = .ok i ↔ w = encode i := by
  have hfields : w = encode i ↔ (fieldsOf w).rsv = 0 ∧ instrOfOpcode (fieldsOf w).op = some i := by
    rw [instrOfOpcode_eq_some_iff]
    constructor
    · rintro rfl
      rw [encode, fieldsOf_wordOfFields]
      exact ⟨rfl, rfl⟩
    · rintro ⟨hrsv, hop⟩
      rw [← wordOfFields_fieldsOf w, encode, ← hrsv, ← hop]
  rw [hfields, decode]
  split
  · next hrsv => exact iff_of_false (fun h => nomatch h) (fun h => hrsv h.1)
  · next hrsv =>
    rw [not_not] at hrsv
    split
    · next j hj => simp [hrsv, hj]
    · next hj => simp [hj]

/-- Bytes decode to a command only if they are the lanes of its encoded word (R65, R88). -/
theorem decodeBytes_eq_ok_iff (bs : List Byte) (i : Instr) :
    decodeBytes bs = .ok i ↔ bs = lanes (encode i) := by
  constructor
  · intro h
    unfold decodeBytes at h
    split at h
    · cases h
    · next w hw =>
      split at h
      · next j hj =>
        cases h
        rw [← (decode_eq_ok_iff w i).mp hj]
        exact eq_lanes_of_wordOfLanes hw
      · cases h
  · rintro rfl
    simp only [decodeBytes, wordOfLanes_lanes, (decode_eq_ok_iff _ i).mpr rfl]

end Sys2Proof

namespace Sys2Proof.Proofs

/-- Settles O3, from the two agreements it is made of: of bytes with words, and of words with commands. -/
theorem decodeEncodeAgreeOnBytes : Obligations.DecodeEncodeAgreeOnBytes :=
  ⟨fun i _ => (decodeBytes_eq_ok_iff _ i).mpr rfl, fun bs i => (decodeBytes_eq_ok_iff bs i).mp⟩

/-- Settles O4. -/
theorem byteLanesAreLittleEndian : Obligations.ByteLanesAreLittleEndian :=
  fun w => ⟨fun k _ => lane_toNat w k, wordOfLanes_lanes w⟩

end Sys2Proof.Proofs
end


section
/-! What a step does at an access that is not accepted and at a brown-out (R60, R62, R63, R213), and the repetition of a
command (R67). -/

namespace Sys2Proof.Machine

/-! ### The commands -/

/-- The commands that read no state they write give the same state again (R67). -/
theorem commandEffect_idempotent {i : Instr} (h : i = .nop ∨ i = .rmul ∨ i = .scale) (s : State) :
    commandEffect i (commandEffect i s) = commandEffect i s := by
  obtain rfl | rfl | rfl := h
  · rfl
  · rw [commandEffect_rmul (commandEffect .rmul s), commandEffect_arg0, commandEffect_arg1]
    rfl
  · rw [commandEffect_scale (commandEffect .scale s), commandEffect_cfg, commandEffect_arg0]
    rfl

/-! ### Accesses that are not accepted -/

theorem Access.busError_of_bits_ne {a : Access} (c : Config) (h : a.bits ≠ 32) : a.busError c = some .width :=
  if_pos h

theorem Access.busError_of_misaligned {a : Access} {c : Config} (hbits : a.bits = 32)
    (h : (a.addr - c.base) % 4 ≠ 0) : a.busError c = some .misaligned :=
  (if_neg (not_not.mpr hbits)).trans (if_pos h)

/-- A step at an access to the window that ends with a bus error (R200). -/
theorem step_busError {s : State} {a : Access} {rest : List Event} {e : BusError} (hb : s.cfg.buildable = true)
    (hi : s.input = .access a :: rest) (hbase : s.cfg.base ≤ a.addr) (hlast : a.addr ≤ s.cfg.base + 0xFFF)
    (he : a.busError s.cfg = some e) : step s = .next (takeBusError e (s.setInput rest)) := by
  have hw : a.inWindow s.cfg = true := (a.inWindow_iff _).mpr ⟨hbase, Nat.lt_succ_of_le hlast⟩
  rw [step_access hb hi, serve, State.setInput_cfg, if_pos hw, he]

/-- A step at an access outside the window (R60, U8). -/
theorem step_outsideWindow {s : State} {a : Access} {rest : List Event} (hb : s.cfg.buildable = true)
    (hi : s.input = .access a :: rest) (ha : a.addr < s.cfg.base ∨ s.cfg.base + 0xFFF < a.addr) :
    step s = .refused .outsideWindow := by
  have hw : ¬ a.inWindow s.cfg = true := by
    rw [Access.inWindow_iff]
    omega
  rw [step_access hb hi, serve, State.setInput_cfg, if_neg hw]

/-- A step at a brown-out (R213, U14). -/
theorem step_brownOut {s : State} {rest : List Event} (hb : s.cfg.buildable = true)
    (hi : s.input = .brownOut :: rest) : step s = .refused .brownOut := by
  rw [step, serveNext, if_pos hb, hi]

end Sys2Proof.Machine

namespace Sys2Proof.Proofs

open Sys2Proof.Machine

/-- Settles O32. -/
theorem statelessCommandsAreIdempotent : Obligations.StatelessCommandsAreIdempotent := fun i s hi =>
  ⟨commandEffect i s, exec_eq_commandEffect i s,
    (exec_eq_commandEffect i _).trans (congrArg _ (commandEffect_idempotent hi s))⟩

/-- Settles O38: the width is checked first (R204). -/
theorem wrongWidthIsABusError : Obligations.WrongWidthIsABusError :=
  fun _ _ _ hb hi hbase hlast hbits => step_busError hb hi hbase hlast (Access.busError_of_bits_ne _ hbits)

/-- Settles O39. -/
theorem misalignedAccessIsABusError : Obligations.MisalignedAccessIsABusError :=
  fun _ _ _ hb hi hbase hlast hbits h =>
    step_busError hb hi hbase hlast (Access.busError_of_misaligned hbits h)

/-- Settles O42. -/
theorem whatDoesNotReachTheBlockIsRefused : Obligations.WhatDoesNotReachTheBlockIsRefused :=
  fun _ _ hb => ⟨fun _ hi ha => step_outsideWindow hb hi ha, fun hi => step_brownOut hb hi⟩

end Sys2Proof.Proofs
end

section
/-! What reaches the block (R60, R70): what a step takes from the port, that an accepted event is always answered, and
that what is still to come does not matter to it. -/

namespace Sys2Proof.Machine

/-! ### The port and the configuration -/

theorem writeWord_port {o : Nat} {w : Word} {s t : State} (h : writeWord o w s = .next t) :
    t.cfg = s.cfg ∧ t.input = s.input := by
  obtain ⟨i, -, -, rfl⟩ | ⟨c, -, -, rfl⟩ | ⟨-, rfl⟩ | ⟨-, rfl⟩ | rfl := writeWord_cases h
  · exact ⟨commandEffect_cfg i s, (commandEffect_port i s).1⟩
  all_goals exact ⟨rfl, rfl⟩

theorem serve_port {a : Access} {s t : State} (h : serve a s = .next t) : t.cfg = s.cfg ∧ t.input = s.input := by
  obtain ⟨-, ⟨e, -, rfl⟩ | ⟨-, -, rfl⟩ | ⟨w, -, -, hw⟩⟩ := serve_cases h
  · exact ⟨rfl, rfl⟩
  · exact ⟨rfl, rfl⟩
  · exact writeWord_port (s := s.respond .written) hw

/-- A step keeps the configuration and takes the oldest event from the port. -/
theorem step_port {s t : State} (h : step s = .next t) : t.cfg = s.cfg ∧ t.input = s.input.tail := by
  obtain ⟨-, ⟨hi, rfl⟩ | ⟨a, rest, hi, hserve⟩ | ⟨rest, hi, rfl⟩⟩ := step_cases h
  · exact ⟨rfl, by rw [hi, List.tail_nil]⟩
  · rw [hi]
    exact serve_port hserve
  · rw [hi]
    exact ⟨rfl, rfl⟩

/-! ### Accepted events -/

/-- The event is a reset or an access to the window. -/
def Event.Accepted (c : Config) (e : Event) : Prop :=
  e = .reset ∨ ∃ a : Access, e = .access a ∧ c.base ≤ a.addr ∧ a.addr ≤ c.base + 0xFFF

/-- A step at a reset (R230). -/
theorem step_reset {s : State} {rest : List Event} (hb : s.cfg.buildable = true) (hi : s.input = .reset :: rest) :
    step s = .next ((State.resetWith s.cfg).setInput rest) := by
  rw [step, serveNext, if_pos hb, hi]

/-- A step at an accepted event is answered with a next state. -/
theorem step_of_accepted {s : State} {e : Event} {rest : List Event} (hb : s.cfg.buildable = true)
    (hi : s.input = e :: rest) (he : e.Accepted s.cfg) : ∃ t, step s = .next t := by
  obtain rfl | ⟨a, rfl, hbase, hlast⟩ := he
  · exact ⟨_, step_reset hb hi⟩
  · rw [step_access hb hi]
    exact serve_next ((a.inWindow_iff _).mpr ⟨hbase, Nat.lt_succ_of_le hlast⟩)

/-! ### Nothing depends on what is still to come -/

theorem State.setInput_eq_self {s : State} {es : List Event} (h : s.input = es) : s.setInput es = s := by
  rw [← h]
  rfl

theorem advanceTriad_setInput (t : Fin 3) (s : State) (es : List Event) :
    advanceTriad t (s.setInput es) = (advanceTriad t s).setInput es := by
  have hw : (s.setInput es).wraps t = s.wraps t := rfl
  rw [advanceTriad, advanceTriad, hw]
  split <;> rfl

theorem commandEffect_setInput (i : Instr) (s : State) (es : List Event) :
    commandEffect i (s.setInput es) = (commandEffect i s).setInput es := by
  cases i with
  | advance =>
    have htriads : advanceTriads (s.setInput es) = (advanceTriads s).setInput es := by
      simp only [advanceTriads, advanceTriad_setInput]
    rw [commandEffect_advance, htriads]
    rfl
  | nop | rmul | mafUpdate | scale | batUpdate => rfl

@[simp] theorem State.setInput_readWord (s : State) (es : List Event) (o : Nat) :
    (s.setInput es).readWord o = s.readWord o := by
  unfold State.readWord
  split
  · exact State.setInput_readReg s es _
  · rfl

theorem writeWord_setInput {o : Nat} {w : Word} {s t : State} (h : writeWord o w s = .next t) (es : List Event) :
    writeWord o w (s.setInput es) = .next (t.setInput es) := by
  unfold writeWord at h ⊢
  split at h
  · unfold execWord at h ⊢
    split at h
    · rw [exec_eq_commandEffect] at h ⊢
      cases h
      rw [commandEffect_setInput]
    · cases h
      rfl
  all_goals
    cases h
    rfl

theorem serve_setInput {a : Access} {s t : State} (h : serve a s = .next t) (es : List Event) :
    serve a (s.setInput es) = .next (t.setInput es) := by
  obtain ⟨hw, ⟨e, he, rfl⟩ | ⟨hn, hk, rfl⟩ | ⟨w, hn, hk, hwrite⟩⟩ := serve_cases h
  all_goals rw [serve, State.setInput_cfg, if_pos hw]
  · rw [he]
    rfl
  · rw [hn, hk, State.setInput_readWord]
    rfl
  · rw [hn, hk]
    exact writeWord_setInput hwrite es

/-- A step at an event alone is the step at that event with others behind it. -/
theorem step_setInput_cons {s t : State} {e : Event} (h : step (s.setInput [e]) = .next t) (rest : List Event) :
    step (s.setInput (e :: rest)) = .next (t.setInput rest) := by
  obtain ⟨hb, ⟨hi, -⟩ | ⟨a, rest', hi, hserve⟩ | ⟨rest', hi, rfl⟩⟩ := step_cases h
  · cases hi
  · cases hi
    exact (step_access (s := s.setInput (.access a :: rest)) hb rfl).trans (serve_setInput hserve rest)
  · cases hi
    exact step_reset (s := s.setInput (.reset :: rest)) hb rfl

/-! ### Reading back an operand register -/

/-- The event is an access to the window, and no 32-bit write to ARG0. -/
def Event.LeavesArg0 (c : Config) (e : Event) : Prop :=
  ∃ a : Access, e = .access a ∧ c.base ≤ a.addr ∧ a.addr ≤ c.base + 0xFFF ∧
    ¬ (a.addr = c.base + 0x004 ∧ a.bits = 32 ∧ ∃ u, a.kind = .write u)

theorem step_of_leavesArg0 {s : State} {e : Event} {rest : List Event} (hb : s.cfg.buildable = true)
    (hi : s.input = e :: rest) (he : e.LeavesArg0 s.cfg) :
    ∃ t, step s = .next t ∧ t.cfg = s.cfg ∧ t.input = rest ∧ t.arg0 = s.arg0 := by
  obtain ⟨a, rfl, hbase, hlast, hno⟩ := he
  obtain ⟨t, ht⟩ := step_of_accepted hb hi (.inr ⟨a, rfl, hbase, hlast⟩)
  obtain ⟨hcfg, hinput⟩ := step_port ht
  rw [hi] at hinput
  refine ⟨t, ht, hcfg, hinput, ?_⟩
  obtain ⟨rest', hreset⟩ | ⟨w, rest', hwrite, -⟩ | ⟨-, -, -, harg⟩ | ⟨harg, -⟩ := step_operands ht
  · cases hi.symm.trans hreset
  · cases hi.symm.trans hwrite
    exact absurd ⟨rfl, rfl, w, rfl⟩ hno
  · exact harg
  · exact harg

/-- ARG0 keeps its value up to its read (R22, R70). -/
theorem run_reads_arg0 (es : List Event) {s : State} (hb : s.cfg.buildable = true)
    (hi : s.input = es ++ [rd s.cfg .arg0]) (hes : ∀ e ∈ es, e.LeavesArg0 s.cfg) :
    ∃ t : State, Sys2Proof.core.run (es.length + 1) s = .next t ∧ t.response = .readData s.arg0 := by
  induction es generalizing s with
  | nil => exact ⟨_, run_succ_of_step (step_read hb hi (by decide) (by decide)) 0, rfl⟩
  | cons e es ih =>
    obtain ⟨t, ht, hcfg, hinput, harg⟩ := step_of_leavesArg0 hb hi (hes e List.mem_cons_self)
    rw [List.length_cons, run_succ_of_step ht, ← harg]
    rw [← hcfg] at hb hes hinput
    exact ih hb hinput fun e he => hes e (List.mem_cons_of_mem _ he)

end Sys2Proof.Machine

namespace Sys2Proof.Proofs

open Sys2Proof.Machine

/-- Settles O52, by induction on the accesses between the write and the read. -/
theorem argumentReadReturnsLastWrite : Obligations.ArgumentReadReturnsLastWrite := by
  intro s v es hb hi hes
  have hwrite : step s = .next (((s.setInput (es ++ [rd s.cfg .arg0])).respond .written).setArg0 v) :=
    step_write hb hi (by decide) (by decide)
  rw [run_succ_of_step hwrite]
  exact run_reads_arg0 es hb rfl hes

end Sys2Proof.Proofs
end

section
/-! Host programs (R240): what the monitor knows of the sequences after a part of a program, and the run of a program
as a run of the block (R72). -/

namespace Sys2Proof.Machine

/-! ### What the monitor knows -/

/-- The access is a write, and the sequence `q` is its sequence. -/
def HostAccess.WritesFor (c : Config) (q : Nat) (x : HostAccess) : Prop :=
  x.sequence = some q ∧ x.event.role c = .write

/-- The access is a write, and not of the sequence `q`. -/
def HostAccess.WritesBeside (c : Config) (q : Nat) (x : HostAccess) : Prop :=
  x.sequence ≠ some q ∧ x.event.role c = .write

/-- In the program `tr` another write follows a write of the sequence `q`. -/
def Overtaken (c : Config) (q : Nat) (tr : List HostAccess) : Prop :=
  ∃ (i j : Nat) (x y : HostAccess), i < j ∧ tr[i]? = some x ∧ tr[j]? = some y ∧
    x.WritesFor c q ∧ y.WritesBeside c q

/-- A program is serialized when no sequence takes part after it has been overtaken. -/
theorem serialized_iff_of_overtaken (c : Config) (tr : List HostAccess) :
    Serialized c tr ↔ ∀ (p rest : List HostAccess) (z : HostAccess) (q : Nat), tr = p ++ z :: rest →
      z.sequence = some q → Overtaken c q p → z.event.role c = .other := by
  constructor
  · rintro h p rest z q rfl hz ⟨i, j, x, y, hij, hx, hy, ⟨hxs, hxr⟩, hys, hyr⟩
    have hj : j < p.length := (List.getElem?_eq_some_iff.mp hy).1
    refine h q i j p.length x y z hij hj ?_ ?_ ?_ hxs hxr hys hyr hz
    · rw [List.getElem?_append_left (hij.trans hj), hx]
    · rw [List.getElem?_append_left hj, hy]
    · rw [List.getElem?_append_right le_rfl, Nat.sub_self, List.getElem?_cons_zero]
  · intro h q i j k x y z hij hjk hx hy hz hxs hxr hys hyr hzs
    obtain ⟨hk, rfl⟩ := List.getElem?_eq_some_iff.mp hz
    refine h (tr.take k) (tr.drop (k + 1)) tr[k] q ?_ hzs ⟨i, j, x, y, hij, ?_, ?_, ⟨hxs, hxr⟩, hys, hyr⟩
    · rw [List.getElem_cons_drop, List.take_append_drop]
    · rw [List.getElem?_take_of_lt (hij.trans hjk), hx]
    · rw [List.getElem?_take_of_lt hjk, hy]

/-- Which sequences are overtaken with one more access. -/
theorem overtaken_append_singleton (c : Config) (q : Nat) (p : List HostAccess) (z : HostAccess) :
    Overtaken c q (p ++ [z]) ↔
      Overtaken c q p ∨ ((∃ x ∈ p, x.WritesFor c q) ∧ z.WritesBeside c q) := by
  constructor
  · rintro ⟨i, j, x, y, hij, hx, hy, hxw, hyw⟩
    have hj : j < (p ++ [z]).length := (List.getElem?_eq_some_iff.mp hy).1
    rw [List.length_append, List.length_singleton] at hj
    have hi : i < p.length := by omega
    rw [List.getElem?_append_left hi] at hx
    by_cases hjp : j < p.length
    · rw [List.getElem?_append_left hjp] at hy
      exact .inl ⟨i, j, x, y, hij, hx, hy, hxw, hyw⟩
    · obtain rfl : j = p.length := by omega
      rw [List.getElem?_concat_length] at hy
      cases hy
      exact .inr ⟨⟨x, List.mem_of_getElem? hx, hxw⟩, hyw⟩
  · rintro (⟨i, j, x, y, hij, hx, hy, hxw, hyw⟩ | ⟨⟨x, hx, hxw⟩, hz⟩)
    · have hj : j < p.length := (List.getElem?_eq_some_iff.mp hy).1
      refine ⟨i, j, x, y, hij, ?_, ?_, hxw, hyw⟩
      · rw [List.getElem?_append_left (hij.trans hj), hx]
      · rw [List.getElem?_append_left hj, hy]
    · obtain ⟨i, hi, rfl⟩ := List.getElem_of_mem hx
      refine ⟨i, p.length, p[i], z, hi, ?_, List.getElem?_concat_length, hxw, hz⟩
      rw [List.getElem?_append_left hi, List.getElem?_eq_getElem hi]

/-- The monitor knows of the program `p` which sequences are overtaken, and which have written: those and the current
one. -/
structure SequenceMonitor.Tracks (m : SequenceMonitor) (c : Config) (p : List HostAccess) : Prop where
  overtaken_iff : ∀ q, q ∈ m.overtaken ↔ Overtaken c q p
  wrote_iff : ∀ q, (q ∈ m.overtaken ∨ m.current = some q) ↔ ∃ x ∈ p, x.WritesFor c q

theorem SequenceMonitor.tracks_start (c : Config) : SequenceMonitor.start.Tracks c [] where
  overtaken_iff q := by simp [SequenceMonitor.start, Overtaken]
  wrote_iff q := by simp [SequenceMonitor.start]

/-- After a write, of whatever sequence, the monitor knows the program with that write. -/
theorem SequenceMonitor.Tracks.write {m : SequenceMonitor} {c : Config} {p : List HostAccess} (h : m.Tracks c p)
    {z : HostAccess} (hz : z.event.role c = .write) : (m.write z.sequence).Tracks c (p ++ [z]) where
  overtaken_iff q := by
    rw [SequenceMonitor.mem_write_overtaken, overtaken_append_singleton, ← h.overtaken_iff, ← h.wrote_iff,
      HostAccess.WritesBeside]
    tauto
  wrote_iff q := by
    have hsnoc : (∃ x ∈ p ++ [z], x.WritesFor c q) ↔ (∃ x ∈ p, x.WritesFor c q) ∨ z.sequence = some q := by
      simp [or_and_right, exists_or, HostAccess.WritesFor, hz]
    rw [hsnoc, ← h.wrote_iff, SequenceMonitor.mem_write_overtaken, SequenceMonitor.write_current]
    tauto

/-- What is no write changes nothing the monitor knows. -/
theorem SequenceMonitor.Tracks.append_of_not_write {m : SequenceMonitor} {c : Config} {p : List HostAccess}
    (h : m.Tracks c p) {z : HostAccess} (hz : z.event.role c ≠ .write) : m.Tracks c (p ++ [z]) where
  overtaken_iff q := by simp [h.overtaken_iff, overtaken_append_singleton, HostAccess.WritesBeside, hz]
  wrote_iff q := by simp [h.wrote_iff, or_and_right, exists_or, HostAccess.WritesFor, hz]

/-- The monitor follows the program. -/
theorem SequenceMonitor.Tracks.observe {m n : SequenceMonitor} {c : Config} {p : List HostAccess}
    (h : m.Tracks c p) {z : HostAccess} (hn : m.observe z.sequence (z.event.role c) = some n) :
    n.Tracks c (p ++ [z]) := by
  obtain ⟨hz, -, rfl⟩ | ⟨hz, -, rfl⟩ | ⟨hz, rfl⟩ := SequenceMonitor.observe_cases hn
  · exact h.write hz
  · exact h.append_of_not_write (by rw [hz]; decide)
  · exact h.append_of_not_write (by rw [hz]; decide)

/-- The monitor disagrees exactly when an overtaken sequence takes part. -/
theorem SequenceMonitor.Tracks.observe_eq_none_iff {m : SequenceMonitor} {c : Config} {p : List HostAccess}
    (h : m.Tracks c p) (z : HostAccess) : m.observe z.sequence (z.event.role c) = none ↔
      z.event.role c ≠ .other ∧ ∃ q, z.sequence = some q ∧ Overtaken c q p := by
  rw [SequenceMonitor.observe_eq_none_iff]
  cases z.sequence with
  | none => simp [SequenceMonitor.isOvertaken]
  | some q => simp [SequenceMonitor.isOvertaken, h.overtaken_iff]

/-! ### Runs of a host program -/

/-- A host program that completes leads the block where the same events at its port lead it (R72). -/
theorem run_of_runHost {tr : List HostAccess} {h g : HostState} (hi : h.block.input = [])
    (hrun : runHost tr h = .next g) :
    Sys2Proof.core.run tr.length (h.block.setInput (tr.map (·.event))) = .next g.block := by
  induction tr generalizing h with
  | nil =>
    cases hrun
    rw [List.map_nil, State.setInput_eq_self hi]
    rfl
  | cons a tr ih =>
    obtain ⟨k, hstep, hrest⟩ := (runHost_cons_eq_next_iff a tr h g).mp hrun
    obtain ⟨-, hblock⟩ := (hostStep_eq_next_iff a h k).mp hstep
    rw [List.map_cons, List.length_cons, run_succ_of_step (step_setInput_cons hblock _)]
    exact ih (step_port hblock).2 hrest

/-- The rest of a serialized program of accepted events completes (R240). -/
theorem runHost_next_of_serialized (tr : List HostAccess) {p : List HostAccess} {h : HostState}
    (hb : h.block.cfg.buildable = true) (hm : h.monitor.Tracks h.block.cfg p)
    (htr : ∀ x ∈ tr, x.event.Accepted h.block.cfg) (hs : Serialized h.block.cfg (p ++ tr)) :
    ∃ g, runHost tr h = .next g := by
  induction tr generalizing p h with
  | nil => exact ⟨h, rfl⟩
  | cons a tr ih =>
    obtain ⟨s, hstep⟩ := step_of_accepted (s := h.block.setInput [a.event]) hb rfl (htr a List.mem_cons_self)
    have hagree : h.monitor.observe a.sequence (a.event.role h.block.cfg) ≠ none := by
      rw [Ne, hm.observe_eq_none_iff]
      rintro ⟨hrole, q, hq, hover⟩
      exact hrole ((serialized_iff_of_overtaken _ _).mp hs p tr a q rfl hq hover)
    obtain ⟨m, hm'⟩ := Option.ne_none_iff_exists'.mp hagree
    have hcfg : s.cfg = h.block.cfg := (step_port hstep).1
    obtain ⟨g, hg⟩ := ih (p := p ++ [a]) (h := { block := s, monitor := m }) (hcfg ▸ hb) (hcfg ▸ hm.observe hm')
      (fun x hx => hcfg ▸ htr x (List.mem_cons_of_mem a hx))
      (by rw [List.append_assoc, List.singleton_append]; exact hcfg ▸ hs)
    exact ⟨g, (runHost_cons_of_next ((hostStep_eq_next_iff _ _ _).mpr ⟨hm', hstep⟩) tr).trans hg⟩

end Sys2Proof.Machine

namespace Sys2Proof.Proofs

open Sys2Proof.Machine

/-- Settles O55: the monitor follows a serialized program without a fault, and each of its steps is one of the block. -/
theorem serializedProgramRunsAsTheBlock : Obligations.SerializedProgramRunsAsTheBlock := by
  intro s tr hb hi htr hs
  obtain ⟨g, hg⟩ := runHost_next_of_serialized tr (h := { block := s, monitor := .start }) hb
    (SequenceMonitor.tracks_start _) htr hs
  exact ⟨g, hg, run_of_runHost hi hg⟩

end Sys2Proof.Proofs
end

section
/-! Which words the decoder refuses and with what cause (R82), and what a CMD write of each kind of word does (R80,
R191). -/

namespace Sys2Proof

/-! ### The fields of a word as numbers -/

theorem fieldsOf_op_toNat (w : Word) : (fieldsOf w).op.toNat = w.toNat % 16 := BitVec.extractLsb'_toNat 0 4 w

theorem fieldsOf_rsv_ne_zero_iff (w : Word) : (fieldsOf w).rsv ≠ 0 ↔ w.toNat / 16 ≠ 0 := by
  have hw := w.isLt
  have hrsv : (fieldsOf w).rsv.toNat = w.toNat / 16 := by
    simp only [fieldsOf, BitVec.extractLsb'_toNat, Nat.shiftRight_eq_div_pow]
    omega
  rw [← hrsv]
  exact not_congr BitVec.toNat_inj.symm

/-- The reserved opcodes are those from 6 on (R83). -/
theorem instrOfOpcode_eq_none_iff (op : BitVec 4) : instrOfOpcode op = none ↔ 6 ≤ op.toNat := by
  revert op
  decide

theorem opcodeOf_toNat (i : Instr) : (opcodeOf i).toNat = (encode i).toNat % 16 := by
  rw [← fieldsOf_op_toNat, encode, fieldsOf_wordOfFields]

/-! ### Illegal words -/

/-- Cause 2 is decided by the reserved bits alone (R82). -/
theorem decode_eq_reservedBits_iff (w : Word) : decode w = .error .reservedBits ↔ w.toNat / 16 ≠ 0 := by
  rw [← fieldsOf_rsv_ne_zero_iff, decode]
  split
  · next hrsv => exact iff_of_true rfl hrsv
  · next hrsv => split <;> exact iff_of_false (fun h => nomatch h) hrsv

/-- Cause 1 is that of a reserved opcode under reserved bits that are zero (R82). -/
theorem decode_eq_reservedOpcode_iff (w : Word) :
    decode w = .error .reservedOpcode ↔ w.toNat / 16 = 0 ∧ 6 ≤ w.toNat % 16 := by
  rw [← fieldsOf_op_toNat, ← instrOfOpcode_eq_none_iff, ← not_ne_iff (a := w.toNat / 16),
    ← fieldsOf_rsv_ne_zero_iff, decode]
  split
  · next hrsv => exact iff_of_false (fun h => nomatch h) (fun h => h.1 hrsv)
  · next hrsv => split <;> simp_all

/-- Every word that neither check refuses decodes to a command (R82). -/
theorem decode_ok_of_legal {w : Word} (hrsv : w.toNat / 16 = 0) (hop : w.toNat % 16 < 6) :
    ∃ i, decode w = .ok i := by
  match hd : decode w with
  | .ok i => exact ⟨i, rfl⟩
  | .error .reservedBits => exact absurd hrsv ((decode_eq_reservedBits_iff w).mp hd)
  | .error .reservedOpcode => exact absurd ((decode_eq_reservedOpcode_iff w).mp hd).2 (Nat.not_le_of_lt hop)

end Sys2Proof

namespace Sys2Proof.Machine

theorem causeCode_of_decode_eq_error {w : Word} {c : IllegalCause} (h : decode w = .error c) :
    causeCode c = if w.toNat / 16 ≠ 0 then 2 else 1 := by
  cases c with
  | reservedBits => rw [if_pos ((decode_eq_reservedBits_iff w).mp h)]; rfl
  | reservedOpcode => rw [if_neg (not_not.mpr ((decode_eq_reservedOpcode_iff w).mp h).1)]; rfl

theorem execWord_of_decode_eq_ok {w : Word} {i : Instr} (h : decode w = .ok i) (s : State) :
    execWord w s = exec i s := by
  rw [execWord, h]

theorem execWord_of_decode_eq_error {w : Word} {c : IllegalCause} (h : decode w = .error c) (s : State) :
    execWord w s = .next (takeIllegal c s) := by
  rw [execWord, h]

/-- A step at a CMD write of a word that decodes to a command (R80). -/
theorem step_command {s : State} {w : Word} {i : Instr} {rest : List Event} (hb : s.cfg.buildable = true)
    (hi : s.input = .access { kind := .write w, addr := s.cfg.base + 0x000, bits := 32 } :: rest)
    (hd : decode w = .ok i) : step s = .next (commandEffect i ((s.setInput rest).respond .written)) := by
  rw [step_write hb hi (by decide) (by decide), ← exec_eq_commandEffect]
  exact execWord_of_decode_eq_ok hd _

end Sys2Proof.Machine

namespace Sys2Proof.Proofs

open Sys2Proof.Machine

/-- Settles O1: each command is read from its encoded word, and the opcodes from 6 on are refused. -/
theorem opcodeMapDecodes : Obligations.OpcodeMapDecodes := by
  refine ⟨(decode_eq_ok_iff _ _).mpr rfl, (decode_eq_ok_iff _ _).mpr rfl, (decode_eq_ok_iff _ _).mpr rfl,
    (decode_eq_ok_iff _ _).mpr rfl, (decode_eq_ok_iff _ _).mpr rfl, (decode_eq_ok_iff _ _).mpr rfl,
    fun op hop => ?_⟩
  rw [decode_eq_reservedOpcode_iff, BitVec.toNat_ofNat]
  omega

/-- Settles O2, from what each of the decoder's answers says of the word. -/
theorem decodingOrderOfCommandWord : Obligations.DecodingOrderOfCommandWord := by
  intro w s
  refine ⟨(decode_eq_reservedBits_iff w).mpr, fun hrsv hop => (decode_eq_reservedOpcode_iff w).mpr ⟨hrsv, hop⟩,
    fun hrsv hop => ?_, fun c hc => ?_⟩
  · obtain ⟨i, hi⟩ := decode_ok_of_legal hrsv hop
    refine ⟨i, hi, ?_⟩
    rw [opcodeOf_toNat, ← (decode_eq_ok_iff w i).mp hi]
  · rw [execWord_of_decode_eq_error hc, takeIllegal_eq, causeCode_of_decode_eq_error hc]

/-- Settles O36. -/
theorem stepRunsTheDecodedCommand : Obligations.StepRunsTheDecodedCommand :=
  fun _ _ _ i hb hi hd => (step_command hb hi hd).trans (exec_eq_commandEffect i _).symm

end Sys2Proof.Proofs
end

section
/-! The operands of RMUL and ADVANCE (R84): the product of a whole RMUL sequence (R86, R104), and the clamp of an
amplitude. -/

namespace Sys2Proof.Machine

/-! ### The product -/

/-- Nothing of the 64-bit product is lost above its bit 63, so its bits 47..16 are the exact quotient's low word. -/
theorem mulShift16_eq (x r : Word) : mulShift16 x r = BitVec.ofNat 32 (x.toNat * r.toNat / 65536) := by
  have hprod : x.toNat * r.toNat < 2 ^ 32 * 2 ^ 32 := Nat.mul_lt_mul'' x.isLt r.isLt
  have hexact : (x.setWidth 64 * r.setWidth 64).toNat = x.toNat * r.toNat := by
    rw [BitVec.toNat_mul, BitVec.toNat_setWidth_of_le (by decide), BitVec.toNat_setWidth_of_le (by decide)]
    exact Nat.mod_eq_of_lt hprod
  rw [mulShift16, BitVec.extractLsb', hexact, Nat.shiftRight_eq_div_pow]

/-! ### The sequence `rmul x, r ; rd RES` -/

/-- A step at a write of ARG0 (R40). -/
theorem step_write_arg0 {s : State} {w : Word} {rest : List Event} (hb : s.cfg.buildable = true)
    (hi : s.input = wr s.cfg .arg0 w :: rest) :
    step s = .next (((s.setInput rest).respond .written).setArg0 w) :=
  step_write hb hi (by decide) (by decide)

/-- A step at a write of ARG1 (R40). -/
theorem step_write_arg1 {s : State} {w : Word} {rest : List Event} (hb : s.cfg.buildable = true)
    (hi : s.input = wr s.cfg .arg1 w :: rest) :
    step s = .next (((s.setInput rest).respond .written).setArg1 w) :=
  step_write hb hi (by decide) (by decide)

/-- A run leads where the run from the state of its first step leads. -/
theorem run_succ_eq_next {s t u : State} {k : Nat} (h : step s = .next t)
    (hrun : Sys2Proof.core.run k t = .next u) : Sys2Proof.core.run (k + 1) s = .next u :=
  (run_succ_of_step h k).trans hrun

/-- The four accesses of `rmul x, r ; rd RES`, one step each. -/
theorem run_rmul_sequence {s : State} {x r : Word} (hb : s.cfg.buildable = true)
    (hi : s.input = scriptRmul s.cfg x r ++ [rd s.cfg .res]) :
    ∃ t : State, Sys2Proof.core.run 4 s = .next t ∧ t.response = .readData (mulShift16 x r) ∧
      t.arg0 = x ∧ t.arg1 = r ∧ t.input = [] := by
  have hdecode : decode (encode .rmul) = .ok .rmul := (decode_eq_ok_iff _ _).mpr rfl
  have hrun : Sys2Proof.core.run 4 s = .next _ :=
    run_succ_eq_next (step_write_arg0 hb hi) <|
    run_succ_eq_next (step_write_arg1 hb rfl) <|
    run_succ_eq_next (step_command hb rfl hdecode) <|
    run_succ_eq_next (step_read hb rfl (by decide : offsetOf .res < 4096) (by decide)) (run_zero _)
  exact ⟨_, hrun, rfl, rfl, rfl, rfl⟩

/-! ### The amplitude -/

/-- `min(ARG0, 255)` is 255 from 255 on (R84). -/
theorem clamp255_of_le {a : Word} (h : 255 ≤ a.toNat) : clamp255 a = 255 := by
  rw [clamp255, Nat.min_eq_right h]
  rfl

theorem advanceTriad_setArg0 (t : Fin 3) (s : State) (v : Word) :
    advanceTriad t (s.setArg0 v) = (advanceTriad t s).setArg0 v := by
  have hw : (s.setArg0 v).wraps t = s.wraps t := rfl
  rw [advanceTriad, advanceTriad, hw]
  split <;> rfl

/-- ADVANCE reads nothing of ARG0 but the amplitude. -/
theorem commandEffect_advance_setArg0 {s : State} {v : Word} (h : clamp255 v = s.amplitude) :
    commandEffect .advance (s.setArg0 v) = (commandEffect .advance s).setArg0 v := by
  have htriads : advanceTriads (s.setArg0 v) = (advanceTriads s).setArg0 v := by
    simp only [advanceTriads, advanceTriad_setArg0]
  have hamp : (s.setArg0 v).amplitude = s.amplitude := h
  rw [commandEffect_advance, htriads, hamp]
  rfl

end Sys2Proof.Machine

namespace Sys2Proof.Proofs

open Sys2Proof.Machine

/-- Settles O53. -/
theorem rmulSequenceReadsItsProduct : Obligations.RmulSequenceReadsItsProduct := by
  intro s x r hb hi
  rw [← mulShift16_eq]
  exact run_rmul_sequence hb hi

/-- Settles O19: with ARG0 put back to its own value, the two states are the same. -/
theorem advanceClampsAmplitude : Obligations.AdvanceClampsAmplitude := by
  intro s hs
  refine ⟨commandEffect .advance (s.setArg0 255), exec_eq_commandEffect _ _, ?_⟩
  have hamp : clamp255 255 = s.amplitude := (clamp255_of_le hs).symm
  have hback : ((commandEffect .advance s).setArg0 255).setArg0 s.arg0 = commandEffect .advance s := by
    rw [← commandEffect_arg0 .advance s]
    rfl
  rw [exec_eq_commandEffect, commandEffect_advance_setArg0 hamp, hback]

end Sys2Proof.Proofs
end

section
/-! Command sequences one after another (R86, R240). -/

namespace Sys2Proof.Machine

/-- Every access of a sequence's trace carries its number. -/
theorem CommandSequence.sequence_of_mem_trace {c : Config} {a : CommandSequence} {x : HostAccess}
    (h : x ∈ a.trace c) : x.sequence = some a.number := by
  obtain ⟨e, -, rfl⟩ := List.mem_map.mp h
  rfl

/-- A program of one sequence alone is serialized: there is no other that could write. -/
theorem serialized_of_one_sequence (c : Config) {tr : List HostAccess} {n : Nat}
    (h : ∀ x ∈ tr, x.sequence = some n) : Serialized c tr := by
  intro q i j k x y z _ _ hx hy _ hxs _ hys _ _
  have hxn := h x (List.mem_of_getElem? hx)
  have hyn := h y (List.mem_of_getElem? hy)
  exact absurd (hyn.trans (hxn.symm.trans hxs)) hys

/-- Two serialized programs that share no sequence are serialized one after the other. -/
theorem Serialized.append {c : Config} {p r : List HostAccess} (hp : Serialized c p) (hr : Serialized c r)
    (hne : ∀ x ∈ p, ∀ z ∈ r, x.sequence ≠ z.sequence) : Serialized c (p ++ r) := by
  intro q i j k x y z hij hjk hx hy hz hxs hxr hys hyr hzs
  by_cases hi : i < p.length
  · rw [List.getElem?_append_left hi] at hx
    by_cases hk : k < p.length
    · rw [List.getElem?_append_left (hjk.trans hk)] at hy
      rw [List.getElem?_append_left hk] at hz
      exact hp q i j k x y z hij hjk hx hy hz hxs hxr hys hyr hzs
    · rw [List.getElem?_append_right (not_lt.mp hk)] at hz
      exact absurd (hxs.trans hzs.symm) (hne x (List.mem_of_getElem? hx) z (List.mem_of_getElem? hz))
  · rw [List.getElem?_append_right (by omega)] at hx hy hz
    exact hr q _ _ _ x y z (by omega) (by omega) hx hy hz hxs hxr hys hyr hzs

end Sys2Proof.Machine

namespace Sys2Proof.Proofs

open Sys2Proof.Machine

/-- Settles O58, by induction on the list of sequences: each shares no number with those behind it. -/
theorem sequencesInTurnAreSerialized : Obligations.SequencesInTurnAreSerialized := by
  intro c qs hnodup
  induction qs with
  | nil => exact serialized_of_one_sequence c (n := 0) (fun _ hx => nomatch hx)
  | cons a qs ih =>
    rw [List.map_cons, List.nodup_cons] at hnodup
    obtain ⟨hfresh, hrest⟩ := hnodup
    rw [List.flatMap_cons]
    refine (serialized_of_one_sequence c fun _ => CommandSequence.sequence_of_mem_trace).append (ih hrest) ?_
    intro x hx z hz hsame
    obtain ⟨b, hb, hzb⟩ := List.mem_flatMap.mp hz
    rw [CommandSequence.sequence_of_mem_trace hx, CommandSequence.sequence_of_mem_trace hzb] at hsame
    exact hfresh (Option.some.inj hsame ▸ List.mem_map_of_mem hb)

end Sys2Proof.Proofs
end

section
/-! The reciprocal-multiply (40_recip_multiply.md): how near `N * recip(N)` is to 65536 (R101), what that says of
`RM(x, recip(N))` beside `x / N` (R102, R103), and the command RMUL (R104). -/

namespace Sys2Proof.Machine

/-! ### The reciprocal (R101) -/

/-- What the floor in `recip(N)` says: `N * recip(N)` is at most half of `N` away from 65536. -/
theorem two_mul_mul_recip_bounds {n : Nat} (h : 1 ≤ n) :
    131072 < 2 * n * recip n + n ∧ 2 * n * recip n ≤ 131072 + n := by
  have hle : 2 * n * recip n ≤ 131072 + n := Nat.mul_div_le (131072 + n) (2 * n)
  have hlt : 131072 + n < 2 * n * (recip n + 1) := Nat.lt_mul_div_succ (131072 + n) (by omega)
  rw [Nat.mul_add_one] at hlt
  exact ⟨by omega, hle⟩

theorem one_le_recip {n : Nat} (h : 1 ≤ n) (hn : n ≤ 65536) : 1 ≤ recip n :=
  Nat.div_pos (by omega) (by omega)

/-- No tie occurs: it would make the odd number `2 * recip(N) - 1` a divisor of `2^17`, hence 1, and `N` would be
`2^17`. -/
theorem two_mul_mul_recip_ne {n : Nat} (h : 1 ≤ n) (hn : n ≤ 65536) : 2 * n * recip n ≠ 131072 + n := by
  intro htie
  obtain ⟨m, hm⟩ := Nat.exists_eq_add_of_le' (one_le_recip h hn)
  have hprod : n * (2 * m + 1) = 2 ^ 17 := by
    rw [hm] at htie
    linarith
  have hcoprime : Nat.Coprime (2 * m + 1) (2 ^ 17) := Nat.Coprime.pow_right 17 (by simp)
  rw [hcoprime.eq_one_of_dvd (Dvd.intro_left n hprod)] at hprod
  omega

/-- The distance of `N * recip(N)` from 65536 is below half of `N`. -/
theorem recip_nearest {n : Nat} (h : 1 ≤ n) (hn : n ≤ 65536) :
    2 * |(65536 : Int) - (n : Int) * (recip n : Int)| < (n : Int) := by
  obtain ⟨hlow, hhigh⟩ := two_mul_mul_recip_bounds h
  have hne := two_mul_mul_recip_ne h hn
  rw [mul_assoc] at hlow hhigh hne
  rw [abs_eq_max_neg, ← Nat.cast_mul]
  omega

theorem recip_le_of_two_le {n : Nat} (h : 2 ≤ n) : recip n ≤ 32768 := by
  obtain ⟨-, hhigh⟩ := two_mul_mul_recip_bounds (Nat.le_of_lt h)
  by_contra hlarge
  have hprod : 2 * n * 32769 ≤ 2 * n * recip n := Nat.mul_le_mul_left _ (by omega)
  omega

/-- Where `N` divides 65536 the reciprocal is the quotient itself. -/
theorem recip_eq_of_mul_eq {n r : Nat} (h : n * r = 65536) : recip n = r := by
  have hn : 0 < n := Nat.pos_of_ne_zero fun h0 => by simp [h0] at h
  have hsum : 131072 + n = n + 2 * n * r := by rw [mul_assoc, h]; omega
  rw [recip, hsum, Nat.add_mul_div_left _ _ (by omega), Nat.div_eq_of_lt (by omega), Nat.zero_add]

/-! ### The product without its low bits (R102, R103) -/

theorem rm_lt {x r : Nat} (hx : x < 2 ^ 32) (hr : r ≤ 65536) : rm x r < 2 ^ 32 := by
  rw [rm_eq_div]
  refine Nat.div_lt_of_lt_mul ?_
  calc x * r ≤ x * 65536 := Nat.mul_le_mul_left x hr
    _ < 65536 * 2 ^ 32 := by omega

/-- A factor pair of 65536: multiplying by one and dropping 16 bits divides by the other. -/
theorem rm_eq_div_of_mul_eq (x : Nat) {n r : Nat} (h : n * r = 65536) : rm x r = x / n := by
  have hr : 0 < r := Nat.pos_of_ne_zero fun h0 => by simp [h0] at h
  rw [rm_eq_div, ← h, Nat.mul_div_mul_right x n hr]

/-- The rounding of `recip(N)` upwards adds at most `x / 131072` to the exact quotient, and the floors less than 1
each. -/
theorem rm_recip_le (x : Nat) {n : Nat} (h : 1 ≤ n) : rm x (recip n) ≤ x / n + (x / 131072 + 1) := by
  obtain ⟨-, hhigh⟩ := two_mul_mul_recip_bounds h
  have hquot : x < n * (x / n + 1) := Nat.lt_mul_div_succ x h
  have hslack : x < 131072 * (x / 131072 + 1) := Nat.lt_mul_div_succ x (by decide)
  have hscaled : 2 * n * (x * recip n) < 2 * n * (65536 * (x / n + (x / 131072 + 2))) :=
    calc 2 * n * (x * recip n) = x * (2 * n * recip n) := by ring
      _ ≤ x * (131072 + n) := Nat.mul_le_mul_left x hhigh
      _ = 131072 * x + n * x := by ring
      _ < 131072 * (n * (x / n + 1)) + n * (131072 * (x / 131072 + 1)) :=
          Nat.add_lt_add (Nat.mul_lt_mul_of_pos_left hquot (by decide)) (Nat.mul_lt_mul_of_pos_left hslack h)
      _ = 2 * n * (65536 * (x / n + (x / 131072 + 2))) := by ring
  rw [rm_eq_div]
  exact Nat.le_of_lt_succ (Nat.div_lt_of_lt_mul (Nat.lt_of_mul_lt_mul_left hscaled))

/-- The rounding of `recip(N)` downwards takes at most `x / 131072` from the exact quotient, and the floors less than 1
each. -/
theorem div_le_rm_recip (x : Nat) {n : Nat} (h : 1 ≤ n) : x / n ≤ rm x (recip n) + (x / 131072 + 1) := by
  obtain ⟨hlow, -⟩ := two_mul_mul_recip_bounds h
  have hprod : x * recip n < 65536 * (rm x (recip n) + 1) := by
    rw [rm_eq_div]
    exact Nat.lt_mul_div_succ _ (by decide)
  have hslack : x < 131072 * (x / 131072 + 1) := Nat.lt_mul_div_succ x (by decide)
  have hscaled : 131072 * x < 131072 * (n * (rm x (recip n) + (x / 131072 + 2))) :=
    calc 131072 * x = x * 131072 := Nat.mul_comm _ _
      _ ≤ x * (2 * n * recip n + n) := Nat.mul_le_mul_left x hlow.le
      _ = 2 * n * (x * recip n) + n * x := by ring
      _ < 2 * n * (65536 * (rm x (recip n) + 1)) + n * (131072 * (x / 131072 + 1)) :=
          Nat.add_lt_add (Nat.mul_lt_mul_of_pos_left hprod (by omega)) (Nat.mul_lt_mul_of_pos_left hslack h)
      _ = 131072 * (n * (rm x (recip n) + (x / 131072 + 2))) := by ring
  exact Nat.le_of_lt_succ (Nat.div_lt_of_lt_mul (Nat.lt_of_mul_lt_mul_left hscaled))

/-! ### The product of two words (R104) -/

theorem mulShift16_toNat_of_le {x r : Word} (h : r.toNat ≤ 65536) : (mulShift16 x r).toNat = rm x.toNat r.toNat := by
  rw [mulShift16_eq, BitVec.toNat_ofNat, ← rm_eq_div, Nat.mod_eq_of_lt (rm_lt x.isLt h)]

theorem mulShift16_of_eq_65536 {x r : Word} (h : r.toNat = 65536) : mulShift16 x r = x := by
  rw [mulShift16_eq, h, Nat.mul_div_cancel _ (by decide), BitVec.ofNat_toNat, BitVec.setWidth_eq]

theorem mulShift16_of_eq_zero {x r : Word} (h : x = 0 ∨ r = 0) : mulShift16 x r = 0 := by
  obtain rfl | rfl := h <;> simp [mulShift16_eq]

end Sys2Proof.Machine

namespace Sys2Proof.Proofs

open Sys2Proof.Machine

/-- Settles O6, from the bits of the product in each corner case. -/
theorem rmulResult : Obligations.RmulResult := by
  refine ⟨rfl, fun s => ⟨commandEffect .rmul s, exec_eq_commandEffect _ _, ?_⟩⟩
  rw [commandEffect_rmul, State.clearStatus_res, State.setRes_res]
  refine ⟨?_, mulShift16_toNat_of_le, mulShift16_of_eq_65536, mulShift16_of_eq_zero⟩
  rw [mulShift16_eq]
  rfl

/-- Settles O26. -/
theorem recipIsNearestInteger : Obligations.RecipIsNearestInteger := by
  refine ⟨fun n h hn => ⟨recip_nearest h hn, rfl, one_le_recip h hn, ?_, recip_le_of_two_le⟩, by decide⟩
  exact (recip_le n h).trans_lt (by decide)

/-- Settles O28: a power of two up to `2^16` is a factor of 65536, and for the others both directions of the rounding
are bounded. -/
theorem rmVersusQuotient : Obligations.RmVersusQuotient := by
  refine ⟨fun x k hk => ?_, fun x n h _ _ => ⟨rm_recip_le x h, div_le_rm_recip x h⟩, by decide⟩
  have hfactor : 2 ^ k * 2 ^ (16 - k) = 65536 := by rw [← pow_add, Nat.add_sub_cancel' hk]; rfl
  rw [recip_eq_of_mul_eq hfactor]
  exact ⟨rfl, rm_eq_div_of_mul_eq x hfactor⟩

/-- Settles O27. -/
theorem rmIsExactAndBounded : Obligations.RmIsExactAndBounded := fun x r hx hr => ⟨rm_eq_div x r, rm_lt hx hr⟩

end Sys2Proof.Proofs
end

section
/-! The duty datapath (R120 to R132): the windows of a PERIOD, the arithmetic of each step of the duty function, and
what it comes to in an exact configuration. -/

namespace Sys2Proof

/-! ### The windows of a PERIOD (R7, R120) -/

theorem Config.segments_bounds {c : Config} (h : c.buildable = true) : 1 ≤ c.segments ∧ c.segments ≤ 256 := by
  simp only [Config.buildable_iff, Config.segmentsOk_iff] at h
  obtain ⟨-, ⟨hone, hle, -⟩, -⟩ := h
  exact ⟨hone, hle⟩

theorem Config.segments_mul_win {c : Config} (h : c.buildable = true) : c.segments * c.win = c.period := by
  simp only [Config.buildable_iff, Config.segmentsOk_iff] at h
  obtain ⟨-, ⟨-, -, hdvd⟩, -⟩ := h
  exact Nat.mul_div_cancel' hdvd

theorem Config.win_pos {c : Config} (h : c.buildable = true) : 0 < c.win :=
  Nat.pos_of_mul_pos_left ((Config.segments_mul_win h).symm ▸ (Config.period_bounds h).1)

theorem Config.subperiod_pos {c : Config} (h : c.buildable = true) : 0 < c.subperiod := by
  simp only [Config.buildable_iff, Config.subperiodOk_iff] at h
  obtain ⟨-, -, ⟨hone, -⟩, -⟩ := h
  exact hone

theorem Config.sineOk_of_buildable {c : Config} (h : c.buildable = true) : c.sineOk = true := by
  obtain ⟨-, -, -, hsine, -⟩ := c.buildable_iff.mp h
  exact hsine

/-- A segment index is that of exactly the phases of its window. -/
theorem Config.segIdx_eq_iff {c : Config} (h : c.buildable = true) (p s : Nat) :
    c.segIdx p = s ↔ s * c.win ≤ p ∧ p < s * c.win + c.win := by
  have hwin := Config.win_pos h
  rw [Config.segIdx, Nat.div_eq_iff hwin, Nat.le_sub_one_iff_lt (by omega)]

theorem Config.segIdx_lt {c : Config} (h : c.buildable = true) {p : Nat} (hp : p < c.period) :
    c.segIdx p < c.segments :=
  Nat.div_lt_of_lt_mul (by rwa [Nat.mul_comm, Config.segments_mul_win h])

/-- SINE_LUT has SEGMENTS entries, so that its two ways to answer 0 past the end agree. -/
theorem Config.sample_eq_getD {c : Config} (h : c.sineOk = true) (s : Nat) : c.sample s = c.sineLut.getD s 0 := by
  obtain ⟨hlength, -⟩ := c.sineOk_iff.mp h
  rw [Config.sample, ite_eq_left_iff]
  exact fun hs => (List.getD_eq_default _ _ (hlength.trans_le (not_lt.mp hs))).symm

end Sys2Proof

namespace Sys2Proof.Machine

/-! ### The steps of the duty function (R125 to R130) -/

theorem rm_le (x : Nat) {r : Nat} (hr : r ≤ 65536) : rm x r ≤ x := by
  rw [rm_eq_div]
  exact Nat.div_le_of_le_mul (by rw [Nat.mul_comm]; exact Nat.mul_le_mul_right x hr)

/-- A computed window start is far below `2^32`, however far it is from the exact one. -/
theorem lowerBound_lt {c : Config} (h : c.buildable = true) {s : Nat} (hs : s < c.segments) :
    lowerBound c s < 2 ^ 24 := by
  obtain ⟨hone, hsegments⟩ := Config.segments_bounds h
  obtain ⟨-, hperiod⟩ := Config.period_bounds h
  calc lowerBound c s ≤ c.period * s := rm_le _ (recip_le _ hone)
    _ ≤ 65536 * s := Nat.mul_le_mul_right s hperiod
    _ < 2 ^ 24 := by omega

/-- The 32-bit subtraction of step 3 in unbounded numbers (R126). -/
theorem subWindow_eq (c : Config) {p lb : Nat} (hlb : lb < 2 ^ 32) :
    subWindow c p lb = rm ((p + 2 ^ 32 - lb) % 2 ^ 32) c.rcSub := by
  rw [subWindow, BitVec.toNat_sub, word_toNat_of_lt hlb, BitVec.toNat_ofNat, Nat.add_mod_mod, Nat.add_comm,
    Nat.add_sub_assoc hlb.le]

theorem transitionToLow_toNat (c : Config) (lb pos onLen : Nat) :
    (transitionToLow c lb pos onLen).toNat = (lb + pos * c.subperiod % 2 ^ 32 + onLen) % 2 ^ 32 := by
  simp only [transitionToLow, BitVec.toNat_add, BitVec.toNat_ofNat]
  omega

/-- `257 / 65536` is above `1 / 255` by so little that the floor is the same up to 65789 (R127). -/
theorem scaleSample_eq_div {x : Nat} (h : x < 65790) : scaleSample x = x / 255 := by
  rw [scaleSample, Nat.shiftRight_eq_div_pow]
  omega

/-- The scaled sample of an 8-bit sample at an 8-bit amplitude is their exact floor quotient (R127). -/
theorem scaleSample_mul {v amp : Nat} (hv : v ≤ 255) (ha : amp ≤ 255) : scaleSample (v * amp) = v * amp / 255 :=
  scaleSample_eq_div ((Nat.mul_le_mul hv ha).trans_lt (by decide))

theorem scaleSample_mul_le {v amp : Nat} (hv : v ≤ 255) (ha : amp ≤ 255) : scaleSample (v * amp) ≤ v := by
  rw [scaleSample_mul hv ha]
  exact Nat.div_le_of_le_mul (by rw [Nat.mul_comm]; exact Nat.mul_le_mul_right v ha)

theorem onLength_eq (c : Config) (a : Nat) : onLength c a = a * c.subperiod / 256 := by
  rw [onLength, Nat.shiftRight_eq_div_pow]

theorem onLength_lt {c : Config} {a : Nat} (hsub : 0 < c.subperiod) (ha : a ≤ 255) : onLength c a < c.subperiod := by
  rw [onLength_eq]
  exact Nat.div_lt_of_lt_mul (Nat.mul_lt_mul_of_pos_right (Nat.lt_succ_of_le ha) hsub)

/-- The sample the duty of phase `p` uses, scaled by the amplitude (R124, R127). -/
def scaledSample (c : Config) (p amp : Nat) : Nat := scaleSample (c.sample (c.segIdx p) * amp)

theorem scaledSample_eq {c : Config} (h : c.buildable = true) (p : Nat) {amp : Nat} (ha : amp ≤ 255) :
    scaledSample c p amp = c.sineLut.getD (c.segIdx p) 0 * amp / 255 := by
  have hsine := Config.sineOk_of_buildable h
  rw [scaledSample, scaleSample_mul (Config.sample_le hsine _) ha, Config.sample_eq_getD hsine]

theorem scaledSample_le {c : Config} (h : c.buildable = true) (p : Nat) {amp : Nat} (ha : amp ≤ 255) :
    scaledSample c p amp ≤ 255 :=
  have hsample := Config.sample_le (Config.sineOk_of_buildable h) (c.segIdx p)
  (scaleSample_mul_le hsample ha).trans hsample

/-- The duty function in unbounded numbers, with the two truncations of R129 written out. -/
theorem duty_eq {c : Config} (h : c.buildable = true) {p : Nat} (hp : p < c.period) (amp : Nat) :
    duty c p amp = decide (p < (lowerBound c (c.segIdx p) +
      subWindow c p (lowerBound c (c.segIdx p)) * c.subperiod % 2 ^ 32 +
        onLength c (scaledSample c p amp)) % 2 ^ 32) := by
  obtain ⟨-, hperiod⟩ := Config.period_bounds h
  have hword : (BitVec.ofNat 32 p).toNat = p := word_toNat_of_lt (by omega)
  rw [← transitionToLow_toNat]
  simp only [duty, BitVec.lt_def, hword]
  rfl

/-! ### Exact configurations (R132) -/

/-- The reciprocals of the configuration give the exact window start and the exact sub-window (R132). -/
structure ExactConfig (c : Config) : Prop where
  windowStart : ∀ s, s < c.segments → rm (c.period * s) c.rcSeg = s * c.win
  subWindowIndex : ∀ d, d < c.win → rm d c.rcSub = d / c.subperiod

/-- In an exact configuration an LED is on in the first on_len phases of each sub-window. -/
theorem ExactConfig.duty_iff {c : Config} (hx : ExactConfig c) (h : c.buildable = true) {p amp : Nat}
    (hp : p < c.period) (ha : amp ≤ 255) :
    duty c p amp = true ↔ (p - c.segIdx p * c.win) % c.subperiod < onLength c (scaledSample c p amp) := by
  obtain ⟨-, hperiod⟩ := Config.period_bounds h
  obtain ⟨hstart, hend⟩ := (Config.segIdx_eq_iff h p _).mp rfl
  have hlb : lowerBound c (c.segIdx p) = c.segIdx p * c.win := hx.windowStart _ (Config.segIdx_lt h hp)
  have hpos : subWindow c p (c.segIdx p * c.win) = (p - c.segIdx p * c.win) / c.subperiod := by
    rw [subWindow_eq c (by omega), ← hx.subWindowIndex _ (by omega)]
    congr 1
    omega
  have hlen := onLength_lt (Config.subperiod_pos h) (scaledSample_le h p ha)
  have hsub := Config.subperiod_le_period h
  have hsplit := Nat.div_add_mod' (p - c.segIdx p * c.win) c.subperiod
  rw [duty_eq h hp, hlb, hpos, decide_eq_true_iff]
  omega

end Sys2Proof.Machine

namespace Sys2Proof.Proofs

open Sys2Proof.Machine

/-- Settles O20, from the unbounded form of each step: no window start comes near `2^32`. -/
theorem dutyFunction : Obligations.DutyFunction := by
  rintro c p amp _ _ _ _ _ _ _ h hp ha rfl rfl rfl rfl rfl rfl rfl
  have hlb := lowerBound_lt h (Config.segIdx_lt h hp)
  rw [duty_eq h hp, subWindow_eq c (by omega), onLength_eq, scaledSample_eq h p ha, rm_eq_div, lowerBound, rm_eq_div]
  rfl

/-- Settles O21: the products of two bytes stay below the first failure. -/
theorem amplitudeScalingIsFloorQuotient : Obligations.AmplitudeScalingIsFloorQuotient := by
  refine ⟨fun x hx => scaleSample_eq_div (by omega), fun v _ => by rw [Nat.mul_zero]; rfl, fun v hv => ?_,
    fun v amp => scaleSample_mul_le, fun x => scaleSample_eq_div, by decide⟩
  rw [scaleSample_mul hv le_rfl, Nat.mul_div_cancel _ (by decide)]

/-- Settles O22. -/
theorem onLengthBelowSubperiod : Obligations.OnLengthBelowSubperiod :=
  fun c a hsub ha => ⟨onLength_eq c a, Nat.le_sub_one_of_lt (onLength_lt hsub ha)⟩

/-- Settles O23: PERIOD is SEGMENTS whole windows, and the rest says which window a phase lies in. -/
theorem segmentIndexTable : Obligations.SegmentIndexTable := by
  intro c h
  refine ⟨fun p q hpq _ => Nat.div_le_div_right hpq, Nat.zero_div _, ?_, fun p => Config.segIdx_lt h,
    fun p s _ => Config.segIdx_eq_iff h p s⟩
  obtain ⟨n, hn⟩ := Nat.exists_eq_add_of_le' (Config.segments_bounds h).1
  have hperiod := Config.segments_mul_win h
  have hwin := Config.win_pos h
  rw [hn, Nat.add_one_mul] at hperiod
  rw [Config.segIdx_eq_iff h, hn, Nat.add_sub_cancel]
  omega

/-- Settles O24: each clause reads the on-length in the characterisation of an exact configuration's duty. -/
theorem exactConfigurationDuty : Obligations.ExactConfigurationDuty := by
  refine ⟨fun c h hstart hsub p hp => ?_, by decide, by decide⟩
  have hduty (amp : Nat) (ha : amp ≤ 255) := (ExactConfig.mk hstart hsub).duty_iff h hp ha
  have hoff {amp : Nat} (ha : amp ≤ 255) (hzero : c.sineLut.getD (c.segIdx p) 0 * amp = 0) : duty c p amp = false := by
    rw [← Bool.not_eq_true, hduty amp ha, scaledSample_eq h p ha, hzero, onLength_eq, Nat.zero_div, Nat.zero_mul]
    exact Nat.not_lt_zero _
  refine ⟨fun amp ha => ?_, hoff (Nat.zero_le _) rfl, ?_, fun hv amp ha => hoff ha (by rw [hv, Nat.zero_mul]),
    fun amp ha hlast => ?_⟩
  · rw [hduty amp ha, onLength_eq, scaledSample_eq h p ha]
  · rw [hduty 255 le_rfl, onLength_eq, scaledSample_eq h p le_rfl, Nat.mul_div_cancel _ (by decide)]
  · rw [← Bool.not_eq_true, hduty amp ha, hlast, not_lt]
    exact Nat.le_sub_one_of_lt (onLength_lt (Config.subperiod_pos h) (scaledSample_le h p ha))

end Sys2Proof.Proofs
end

section
/-! What ADVANCE does to each triad and to the LED masks (R133 to R135), and the period of the animation (R137). -/

namespace Sys2Proof.Machine

/-- The three members of a triad are different. -/
theorem members_ne : ∀ m : Fin 3, m + 1 ≠ m ∧ m + 2 ≠ m ∧ m + 2 ≠ m + 1 := by
  decide

/-! ### The masks of ADVANCE (R134, R135) -/

theorem State.ccMask_getLsbD (s : State) (k n : Fin 3) :
    s.ccMask.getLsbD (ledIndex k n).val = (decide (n = s.act[k.val]) && s.wraps k) :=
  triadMask_getLsbD (fun t => s.act[t.val]) s.wraps k n

theorem State.onMask_getLsbD (s : State) (amp : Nat) (k n : Fin 3) :
    (s.onMask amp).getLsbD (ledIndex k n).val =
      (decide (n = s.act[k.val]) && duty s.cfg s.phase[(s.activeLed k).val].toNat amp) :=
  triadMask_getLsbD (fun t => s.act[t.val]) (fun t => duty s.cfg s.phase[(s.activeLed t).val].toNat amp) k n

/-! ### ADVANCE: what each element of the state becomes -/

@[simp] theorem commandEffect_advance_act (s : State) :
    (commandEffect .advance s).act = (advanceTriads s).act := by
  rw [commandEffect_advance, State.clearStatus_act, State.setRes_act, State.setLeds_act]

@[simp] theorem commandEffect_advance_phase (s : State) :
    (commandEffect .advance s).phase = (advanceTriads s).phase := by
  rw [commandEffect_advance, State.clearStatus_phase, State.setRes_phase, State.setLeds_phase]

@[simp] theorem commandEffect_advance_ledsCc (s : State) : (commandEffect .advance s).ledsCc = s.ccMask := by
  rw [commandEffect_advance, State.clearStatus_ledsCc, State.setRes_ledsCc, State.setLeds_ledsCc]

@[simp] theorem commandEffect_advance_ledsOn (s : State) :
    (commandEffect .advance s).ledsOn = (advanceTriads s).onMask s.amplitude.toNat := by
  rw [commandEffect_advance, State.clearStatus_ledsOn, State.setRes_ledsOn, State.setLeds_ledsOn]

theorem commandEffect_advance_res (s : State) :
    (commandEffect .advance s).res =
      ledsWord (commandEffect .advance s).ledsOn (commandEffect .advance s).ledsCc := rfl

/-- ADVANCE writes ACT, PHASE, the LED masks and RES, and clears the status. -/
theorem commandEffect_advance_frame (s : State) :
    commandEffect .advance s = { s with
      act := (commandEffect .advance s).act, phase := (commandEffect .advance s).phase,
      ledsOn := (commandEffect .advance s).ledsOn, ledsCc := (commandEffect .advance s).ledsCc,
      res := (commandEffect .advance s).res, err := false, errCause := 0 } := by
  rw [commandEffect_advance, advanceTriads_frame]
  rfl

/-- An ADVANCE on which triad `k` wraps: the next member becomes active, and its phase and the old member's are 0. -/
theorem commandEffect_advance_of_wraps {s : State} {k : Fin 3} (h : s.wraps k = true) :
    (commandEffect .advance s).act[k.val] = s.act[k.val] + 1 ∧
    ∀ n : Fin 3, (commandEffect .advance s).phase[(ledIndex k n).val] =
      if n = s.act[k.val] ∨ n = s.act[k.val] + 1 then 0 else s.phase[(ledIndex k n).val] := by
  simp only [commandEffect_advance_act, commandEffect_advance_phase, advanceTriads_act, advanceTriads_phase, h,
    if_true, implies_true, and_self]

/-- An ADVANCE on which triad `k` does not wrap: the active member stays, and its phase alone moves on. -/
theorem commandEffect_advance_of_not_wraps {s : State} {k : Fin 3} (h : ¬ s.wraps k = true) :
    (commandEffect .advance s).act[k.val] = s.act[k.val] ∧
    ∀ n : Fin 3, (commandEffect .advance s).phase[(ledIndex k n).val] =
      if n = s.act[k.val] then s.phase[(ledIndex k n).val] + 1 else s.phase[(ledIndex k n).val] := by
  simp only [commandEffect_advance_act, commandEffect_advance_phase, advanceTriads_act, advanceTriads_phase,
    if_neg h, implies_true, and_self]

/-! ### The position of a triad in its rotation (R137) -/

/-- How many ticks triad `k` stands behind the start of its rotation: PERIOD for each member before the active one, and
the active member's phase. -/
def State.rotation (s : State) (k : Fin 3) : Nat :=
  s.cfg.period * s.act[k.val].val + s.phase[(s.activeLed k).val].toNat

theorem State.rotation_of_act {s : State} {k m : Fin 3} (h : s.act[k.val] = m) :
    s.rotation k = s.cfg.period * m.val + s.phase[(ledIndex k m).val].toNat := by
  subst h
  rfl

theorem State.Inv.rotation_lt {s : State} (h : s.Inv) (k : Fin 3) : s.rotation k < 3 * s.cfg.period := by
  have hphase := h.phaseBound (s.activeLed k)
  have hmember : s.cfg.period * s.act[k.val].val ≤ s.cfg.period * 2 :=
    Nat.mul_le_mul_left _ (Nat.le_of_lt_succ s.act[k.val].isLt)
  rw [State.rotation]
  omega

/-- The rotation gives the active member back. -/
theorem State.Inv.rotation_div {s : State} (h : s.Inv) (k : Fin 3) :
    s.rotation k / s.cfg.period = s.act[k.val].val := by
  have hphase := h.phaseBound (s.activeLed k)
  rw [State.rotation, Nat.mul_add_div (by omega), Nat.div_eq_of_lt hphase, Nat.add_zero]

/-- The rotation gives the active member's phase back. -/
theorem State.Inv.rotation_mod {s : State} (h : s.Inv) (k : Fin 3) :
    s.rotation k % s.cfg.period = s.phase[(s.activeLed k).val].toNat := by
  rw [State.rotation, Nat.mul_add_mod, Nat.mod_eq_of_lt (h.phaseBound _)]

theorem State.Inv.wraps_iff_rotation {s : State} (h : s.Inv) (k : Fin 3) :
    s.wraps k = true ↔ s.rotation k % s.cfg.period + 1 = s.cfg.period := by
  rw [h.rotation_mod, State.wraps_iff]
  rfl

/-- ACT and PHASE are known from the rotations, because a member that is not active has phase 0. -/
theorem State.Inv.animation_eq {s t : State} (hs : s.Inv) (ht : t.Inv) (hcfg : t.cfg = s.cfg)
    (hrot : ∀ k, t.rotation k = s.rotation k) : t.act = s.act ∧ t.phase = s.phase := by
  have hact (k : Fin 3) : t.act[k.val] = s.act[k.val] :=
    Fin.ext (by rw [← ht.rotation_div, ← hs.rotation_div, hrot, hcfg])
  refine ⟨Vector.ext fun i hi => hact ⟨i, hi⟩, Vector.ext fun i hi => ?_⟩
  obtain ⟨k, m, hl⟩ := exists_ledIndex_eq ⟨i, hi⟩
  obtain rfl : (ledIndex k m).val = i := congrArg Fin.val hl
  by_cases hm : m = s.act[k.val]
  · have hrots := hrot k
    rw [State.rotation_of_act (hact k), State.rotation_of_act rfl, hcfg, ← hm] at hrots
    exact BitVec.eq_of_toNat_eq (Nat.add_left_cancel hrots)
  · rw [hs.inactiveZero k m hm, ht.inactiveZero k m (hact k ▸ hm)]

/-- An ADVANCE moves each triad on by one in its rotation of 3*PERIOD ticks. -/
theorem State.Inv.rotation_advance {s : State} (h : s.Inv) (k : Fin 3) :
    (commandEffect .advance s).rotation k = (s.rotation k + 1) % (3 * s.cfg.period) := by
  by_cases hwrap : s.wraps k = true
  · obtain ⟨hact, hphase⟩ := commandEffect_advance_of_wraps hwrap
    have hend : s.phase[(s.activeLed k).val].toNat + 1 = s.cfg.period := (s.wraps_iff k).mp hwrap
    rw [State.rotation_of_act hact, hphase, if_pos (.inr rfl), commandEffect_cfg, State.rotation, Nat.add_assoc, hend,
      ← Nat.mul_add_one, Nat.mul_comm 3, Nat.mul_mod_mul_left]
    rfl
  · obtain ⟨hact, hphase⟩ := commandEffect_advance_of_not_wraps hwrap
    have hfits : s.phase[(ledIndex k s.act[k.val]).val].toNat + (1 : Phase).toNat < 2 ^ 16 :=
      ((h.phaseBound _).lt_of_ne (mt (s.wraps_iff k).mpr hwrap)).trans_le (Config.period_bounds h.buildable).2
    have hnext : (commandEffect .advance s).rotation k = s.rotation k + 1 := by
      rw [State.rotation_of_act hact, hphase, if_pos rfl, commandEffect_cfg, BitVec.toNat_add_of_lt hfits]
      rfl
    have hlt := (h.after_commandEffect .advance).rotation_lt k
    rw [commandEffect_cfg, hnext] at hlt
    rw [hnext, Nat.mod_eq_of_lt hlt]

/-- The state after a list of ADVANCEs: the invariant holds, the build is the same, and each triad has moved on by one
for each of them. -/
theorem State.Inv.after_advances {s t : State} (h : s.Inv) {xs : List Word}
    (hrun : repeatCommand .advance xs s = .next t) :
    t.Inv ∧ t.cfg = s.cfg ∧ ∀ k, t.rotation k = (s.rotation k + xs.length) % (3 * s.cfg.period) := by
  induction xs generalizing s with
  | nil =>
    cases hrun
    exact ⟨h, rfl, fun k => (Nat.mod_eq_of_lt (h.rotation_lt k)).symm⟩
  | cons x xs ih =>
    rw [repeatCommand_cons] at hrun
    obtain ⟨hinv, hcfg, hrot⟩ := ih ((h.setArg0 x).after_commandEffect .advance) hrun
    rw [commandEffect_cfg] at hcfg hrot
    refine ⟨hinv, hcfg, fun k => ?_⟩
    rw [hrot, (h.setArg0 x).rotation_advance, List.length_cons, Nat.add_comm xs.length, ← Nat.add_assoc]
    exact Nat.mod_add_mod _ _ _

/-- Whether the tick after a list of ADVANCEs wraps triad `k`. -/
theorem State.Inv.wraps_after_advances_iff {s : State} (h : s.Inv) (xs : List Word) (k : Fin 3) :
    (∃ u, repeatCommand .advance xs s = .next u ∧ u.wraps k = true) ↔
      (s.rotation k + xs.length) % s.cfg.period + 1 = s.cfg.period := by
  obtain ⟨t, hrun⟩ := repeatCommand_next .advance xs s
  obtain ⟨ht, hcfg, hrot⟩ := h.after_advances hrun
  have hwraps := ht.wraps_iff_rotation k
  rw [hrot, hcfg, Nat.mod_mod_of_dvd _ (Nat.dvd_mul_left _ 3)] at hwraps
  rw [← hwraps, hrun]
  exact ⟨fun ⟨_, hu, hw⟩ => Host.Outcome.next.inj hu ▸ hw, fun hw => ⟨t, rfl, hw⟩⟩

/-- PERIOD ticks on, a triad has passed its phase to the next member. -/
theorem State.Inv.animation_of_rotation_period {s t : State} (hs : s.Inv) (ht : t.Inv) (hcfg : t.cfg = s.cfg)
    {k : Fin 3} (hrot : t.rotation k = (s.rotation k + s.cfg.period) % (3 * s.cfg.period)) :
    t.act[k.val] = s.act[k.val] + 1 ∧ t.phase[(t.activeLed k).val] = s.phase[(s.activeLed k).val] := by
  have hpos := (Config.period_bounds hs.buildable).1
  constructor
  · apply Fin.ext
    rw [← ht.rotation_div, hrot, hcfg, Nat.mul_comm 3, Nat.mod_mul_right_div_self, Nat.add_div_right _ hpos,
      hs.rotation_div]
    rfl
  · apply BitVec.eq_of_toNat_eq
    rw [← ht.rotation_mod, hrot, hcfg, Nat.mod_mod_of_dvd _ (Nat.dvd_mul_left _ 3), Nat.add_mod_right,
      hs.rotation_mod]

/-- Of `p` numbers in a row exactly one is `p - 1` modulo `p`. -/
theorem mod_add_one_eq_iff {b n p : Nat} (hn : n < p) : (b + n) % p + 1 = p ↔ n = p - 1 - b % p := by
  have hb : b % p < p := Nat.mod_lt _ (by omega)
  rw [Nat.add_mod, Nat.mod_eq_of_lt hn]
  by_cases hlt : b % p + n < p
  · rw [Nat.mod_eq_of_lt hlt]
    omega
  · rw [Nat.mod_eq_sub_mod (not_lt.mp hlt), Nat.mod_eq_of_lt (by omega)]
    omega

end Sys2Proof.Machine

namespace Sys2Proof.Proofs

open Sys2Proof.Machine

/-- Settles O17, from what an ADVANCE does in each of the two cases of R133. -/
theorem advanceStepsEachTriad : Obligations.AdvanceStepsEachTriad := by
  intro s
  refine ⟨commandEffect .advance s, exec_eq_commandEffect _ _, ?_⟩
  rintro k m rfl
  refine ⟨fun n => ?_, ?_⟩
  · rw [commandEffect_advance_ledsCc, State.ccMask_getLsbD, Bool.eq_iff_iff]
    simp [State.wraps_iff]
  · obtain ⟨hnext, hthird, hthirdNext⟩ := members_ne s.act[k.val]
    split
    · next hend =>
      obtain ⟨hact, hphase⟩ := commandEffect_advance_of_wraps ((s.wraps_iff k).mpr hend)
      exact ⟨hact, (hphase _).trans (if_pos (.inl rfl)), (hphase _).trans (if_pos (.inr rfl)),
        (hphase _).trans (if_neg (not_or_intro hthird hthirdNext))⟩
    · next hend =>
      obtain ⟨hact, hphase⟩ := commandEffect_advance_of_not_wraps (mt (s.wraps_iff k).mp hend)
      exact ⟨hact, (hphase _).trans (if_pos rfl), (hphase _).trans (if_neg hnext),
        (hphase _).trans (if_neg hthird)⟩

/-- Settles O18: of the members of a triad only the one active after the step can have its bit set. -/
theorem advanceReportsDutyOfActiveLeds : Obligations.AdvanceReportsDutyOfActiveLeds := by
  refine ⟨rfl, fun s => ⟨commandEffect .advance s, exec_eq_commandEffect _ _, commandEffect_advance_frame s, ?_,
    fun k n => ?_⟩⟩
  · rw [commandEffect_advance_res, ledsWord_toNat]
  · rw [commandEffect_advance_ledsOn, State.onMask_getLsbD, advanceTriads_cfg, State.amplitude, clamp255_toNat,
      commandEffect_advance_act, commandEffect_advance_phase]
    by_cases hn : n = (advanceTriads s).act[k.val]
    · subst hn
      rfl
    · simp only [hn, decide_false, Bool.false_and]

/-- Settles O25: each triad counts the ticks modulo 3*PERIOD. -/
theorem animationIsPeriodic : Obligations.AnimationIsPeriodic := by
  intro s xs h
  obtain ⟨t, hrun⟩ := repeatCommand_next .advance xs s
  obtain ⟨ht, hcfg, hrot⟩ := h.after_advances hrun
  refine ⟨fun hlength => ⟨t, hrun, fun k => ⟨?_, h.animation_of_rotation_period ht hcfg (hlength ▸ hrot k)⟩⟩,
    fun hlength => ⟨t, hrun, h.animation_eq ht hcfg fun k => ?_⟩⟩
  · have hpos := (Config.period_bounds h.buildable).1
    have hwraps {n : Nat} (hn : n < s.cfg.period) :
        (∃ u, repeatCommand .advance (xs.take n) s = .next u ∧ u.wraps k = true) ↔
          n = s.cfg.period - 1 - s.rotation k % s.cfg.period := by
      rw [h.wraps_after_advances_iff, List.length_take_of_le (by omega), mod_add_one_eq_iff hn]
    have hlast : s.cfg.period - 1 - s.rotation k % s.cfg.period < s.cfg.period := by omega
    exact ⟨_, ⟨hlast, (hwraps hlast).mpr rfl⟩, fun n ⟨hn, hw⟩ => (hwraps hn).mp hw⟩
  · rw [hrot, hlength, Nat.add_mod_right, Nat.mod_eq_of_lt (h.rotation_lt k)]

end Sys2Proof.Proofs
end

section
/-! MAF_UPDATE (R160 to R162): the ring read from its cursor on is the window of the last C samples, oldest first, and
each command moves that window on by one sample. -/

namespace Sys2Proof

/-- A legal C is two to the power LOG2C, not 0, and an 8-bit cursor can number all its slots (R7, R34). -/
theorem Config.capacityOk_bounds {c : Config} (h : c.capacityOk = true) :
    2 ^ c.log2C = c.capacity ∧ 0 < c.capacity ∧ c.capacity ≤ 256 := by
  rw [Config.capacityOk, Bool.and_eq_true, decide_eq_true_eq, decide_eq_true_eq] at h
  exact ⟨h.1, h.1 ▸ Nat.two_pow_pos _, h.2⟩

end Sys2Proof

namespace Sys2Proof.Machine

/-! ### Lists as rings -/

/-- Overwriting the slot at the cursor and moving the cursor on drops the oldest element and appends the new one. -/
theorem rotate_succ_set {α : Type} {l : List α} {i : Nat} (h : i < l.length) (v : α) :
    (l.set i v).rotate (i + 1) = (l.rotate i).tail ++ [v] := by
  have hwritten : (l.set i v).rotate (i + 1) = l.drop (i + 1) ++ (l.take i ++ [v]) := by
    rw [List.rotate_eq_drop_append_take (by rw [List.length_set]; exact h), List.drop_set_of_lt (Nat.lt_succ_self i),
      List.take_set, List.take_succ_eq_append_getElem h, List.set_append_right _ _ (by simp)]
    simp [h.le]
  rw [hwritten, List.rotate_eq_drop_append_take h.le, List.drop_eq_getElem_cons h, List.cons_append, List.tail_cons,
    List.append_assoc]

/-! ### The sum over the ring -/

theorem ringSum_append (a b : List Byte) : ringSum (a ++ b) = ringSum a + ringSum b := by
  simp [ringSum]

@[simp] theorem ringSum_replicate_zero (n : Nat) : ringSum (List.replicate n 0) = 0 := by
  simp [ringSum]

/-- The sum over the ring does not depend on where one starts to read. -/
theorem ringSum_rotate (ring : List Byte) (n : Nat) : ringSum (ring.rotate n) = ringSum ring :=
  ((ring.rotate_perm n).map _).sum_eq

theorem ringSum_le {ring : List Byte} : ringSum ring ≤ ring.length * 255 := by
  have hslot : ∀ x ∈ ring.map BitVec.toNat, x ≤ 255 := by
    intro x hx
    obtain ⟨v, -, rfl⟩ := List.mem_map.mp hx
    exact Nat.le_of_lt_succ v.isLt
  simpa [ringSum] using List.sum_le_card_nsmul _ _ hslot

theorem ringSum_clamped (xs : List Word) :
    ringSum (xs.map clamp255) = (xs.map fun x => min x.toNat 255).sum := by
  simp [ringSum, Function.comp_def]

/-! ### What MAF_UPDATE does to each element of the filter -/

theorem commandEffect_mafUpdate_ring (s : State) :
    (commandEffect .mafUpdate s).ring = s.ring.set s.cur.toNat s.sample := rfl

theorem commandEffect_mafUpdate_cur (s : State) :
    (commandEffect .mafUpdate s).cur = nextCursor s.cfg s.cur := rfl

theorem nextCursor_toNat {c : Config} (h : c.capacityOk = true) (cur : Byte) :
    (nextCursor c cur).toNat = (cur.toNat + 1) % c.capacity := by
  obtain ⟨-, hpos, hle⟩ := Config.capacityOk_bounds h
  rw [nextCursor, BitVec.toNat_ofNat, Nat.mod_eq_of_lt ((Nat.mod_lt _ hpos).trans_le hle)]

/-- What MAF_UPDATE relies on: a legal capacity, C slots (R33), and a cursor that names one of them (R34). -/
structure State.FilterInv (s : State) : Prop where
  capacityOk : s.cfg.capacityOk = true
  ringLength : s.ring.length = s.cfg.capacity
  curBound : s.cur.toNat < s.cfg.capacity

theorem State.FilterInv.cur_lt_length {s : State} (h : s.FilterInv) : s.cur.toNat < s.ring.length :=
  h.ringLength ▸ h.curBound

theorem State.FilterInv.setArg0 {s : State} (h : s.FilterInv) (v : Word) : (s.setArg0 v).FilterInv := { h with }

theorem State.FilterInv.after_mafUpdate {s : State} (h : s.FilterInv) :
    (commandEffect .mafUpdate s).FilterInv where
  capacityOk := h.capacityOk
  ringLength := List.length_set.trans h.ringLength
  curBound := by
    rw [commandEffect_mafUpdate_cur, nextCursor_toNat h.capacityOk, commandEffect_cfg]
    exact Nat.mod_lt _ (Config.capacityOk_bounds h.capacityOk).2.1

/-- The floor of the ring's mean. -/
def State.ringMean (s : State) : Nat := ringSum s.ring / s.cfg.capacity

theorem State.FilterInv.ringMean_le {s : State} (h : s.FilterInv) : s.ringMean ≤ 255 := by
  have hsum := ringSum_le (ring := s.ring)
  rw [h.ringLength] at hsum
  exact Nat.div_le_of_le_mul hsum

/-- The shift by LOG2C is the division by C. -/
theorem State.FilterInv.mafUpdate_res {s : State} (h : s.FilterInv) :
    (commandEffect .mafUpdate s).res = resultWord (commandEffect .mafUpdate s).ringMean := by
  have hshift (n : Nat) : n >>> s.cfg.log2C = n / s.cfg.capacity := by
    rw [Nat.shiftRight_eq_div_pow, (Config.capacityOk_bounds h.capacityOk).1]
  exact congrArg resultWord (hshift _)

/-- RES holds the whole mean. -/
theorem State.FilterInv.mafUpdate_res_toNat {s : State} (h : s.FilterInv) :
    (commandEffect .mafUpdate s).res.toNat = (commandEffect .mafUpdate s).ringMean := by
  have hle := h.after_mafUpdate.ringMean_le
  rw [h.mafUpdate_res, resultWord, BitVec.toNat_ofNat, Nat.mod_eq_of_lt (by omega)]

/-- A ring of one slot holds just the sample (R160's corner case C = 1). -/
theorem State.FilterInv.mafUpdate_ringMean_of_capacity_one {s : State} (h : s.FilterInv) (hone : s.cfg.capacity = 1) :
    (commandEffect .mafUpdate s).ringMean = s.sample.toNat := by
  obtain ⟨v, hv⟩ := List.length_eq_one_iff.mp (h.ringLength.trans hone)
  have hcur : s.cur.toNat = 0 := Nat.lt_one_iff.mp (hone ▸ h.curBound)
  rw [State.ringMean, commandEffect_mafUpdate_ring, commandEffect_cfg, hone, hv, hcur]
  simp [ringSum]

/-! ### The window of the last C samples (R160, R161) -/

/-- The ring read from the cursor on, which is the next slot to overwrite: the oldest sample comes first. -/
def State.window (s : State) : List Byte := s.ring.rotate s.cur.toNat

theorem State.window_length (s : State) : s.window.length = s.ring.length := List.length_rotate ..

theorem State.ringMean_eq_window (s : State) : s.ringMean = ringSum s.window / s.cfg.capacity := by
  rw [State.ringMean, State.window, ringSum_rotate]

/-- MAF_UPDATE drops the window's oldest sample and appends the new one. -/
theorem State.FilterInv.mafUpdate_window {s : State} (h : s.FilterInv) :
    (commandEffect .mafUpdate s).window = s.window.tail ++ [s.sample] := by
  have hlength : s.cfg.capacity = (s.ring.set s.cur.toNat s.sample).length :=
    (List.length_set.trans h.ringLength).symm
  rw [State.window, commandEffect_mafUpdate_ring, commandEffect_mafUpdate_cur, nextCursor_toNat h.capacityOk, hlength,
    List.rotate_mod, rotate_succ_set h.cur_lt_length]
  rfl

/-- The state after a run of samples: the window has moved on over all of them. -/
theorem State.FilterInv.after_mafUpdates {s t : State} (h : s.FilterInv) {xs : List Word}
    (hrun : repeatCommand .mafUpdate xs s = .next t) :
    t.FilterInv ∧ t.cfg = s.cfg ∧ t.window = (s.window ++ xs.map clamp255).drop xs.length := by
  induction xs generalizing s with
  | nil =>
    cases hrun
    exact ⟨h, rfl, (List.append_nil _).symm⟩
  | cons x xs ih =>
    rw [repeatCommand_cons] at hrun
    obtain ⟨hinv, hcfg, hwindow⟩ := ih (h.setArg0 x).after_mafUpdate hrun
    have hne : s.window ≠ [] :=
      List.ne_nil_of_length_pos (by rw [s.window_length]; exact Nat.zero_lt_of_lt h.cur_lt_length)
    have hnext : (commandEffect .mafUpdate (s.setArg0 x)).window = s.window.tail ++ [clamp255 x] :=
      (h.setArg0 x).mafUpdate_window
    refine ⟨hinv, hcfg.trans (commandEffect_cfg _ _), ?_⟩
    rw [hwindow, hnext, List.append_assoc, ← List.tail_append_of_ne_nil hne, List.drop_tail]
    rfl

/-- RES stays the ring's mean over a run of MAF_UPDATE, and a run that is not empty makes it so. -/
theorem State.FilterInv.res_after_mafUpdates {s t : State} (h : s.FilterInv) {xs : List Word}
    (hres : xs ≠ [] ∨ s.res.toNat = s.ringMean) (hrun : repeatCommand .mafUpdate xs s = .next t) :
    t.res.toNat = t.ringMean := by
  induction xs generalizing s with
  | nil =>
    cases hrun
    exact hres.resolve_left (not_not.mpr rfl)
  | cons x xs ih =>
    rw [repeatCommand_cons] at hrun
    exact ih (h.setArg0 x).after_mafUpdate (.inr (h.setArg0 x).mafUpdate_res_toNat) hrun

/-- The filter as it is after reset: C zero slots and the cursor at the first (R43). -/
theorem State.filterInv_of_zero {s : State} (hc : s.cfg.capacityOk = true)
    (hring : s.ring = List.replicate s.cfg.capacity 0) (hcur : s.cur = 0) : s.FilterInv where
  capacityOk := hc
  ringLength := hring ▸ List.length_replicate
  curBound := hcur ▸ (Config.capacityOk_bounds hc).2.1

/-- Of the zeros before the samples and the samples, only the last C samples count in the sum. -/
theorem ringSum_drop_zeros_append (n : Nat) (xs : List Word) :
    ringSum ((List.replicate n 0 ++ xs.map clamp255).drop xs.length) =
      ((xs.drop (xs.length - n)).map fun x => min x.toNat 255).sum := by
  rw [List.drop_append, List.drop_replicate, List.length_replicate, ringSum_append, ringSum_replicate_zero,
    Nat.zero_add, ← List.map_drop, ringSum_clamped]

end Sys2Proof.Machine

namespace Sys2Proof.Proofs

open Sys2Proof.Machine

/-- Settles O12. -/
theorem mafUpdateResult : Obligations.MafUpdateResult := by
  refine ⟨by decide, fun s hc hlength hcur => ?_⟩
  have h : s.FilterInv := ⟨hc, hlength, hcur⟩
  have hres := h.mafUpdate_res_toNat
  refine ⟨commandEffect .mafUpdate s, exec_eq_commandEffect _ _, ?_, nextCursor_toNat hc _,
    hres ▸ h.after_mafUpdate.ringMean_le, fun hone => ?_⟩
  · exact congrArg (fun r => { commandEffect .mafUpdate s with res := r }) h.mafUpdate_res
  · rw [hres, h.mafUpdate_ringMean_of_capacity_one hone, State.sample, clamp255_toNat]

/-- Settles O13: the window, all zeros at first, has moved on over all samples. -/
theorem mafReturnsMeanOfLastSamples : Obligations.MafReturnsMeanOfLastSamples := by
  intro s xs hc hring hcur hne
  have h := State.filterInv_of_zero hc hring hcur
  have hzero : s.window = List.replicate s.cfg.capacity 0 := by
    rw [State.window, hring, List.rotate_replicate]
  obtain ⟨t, hrun⟩ := repeatCommand_next .mafUpdate xs s
  obtain ⟨-, hcfg, hwindow⟩ := h.after_mafUpdates hrun
  refine ⟨t, hrun, ?_⟩
  rw [h.res_after_mafUpdates (.inl hne) hrun, t.ringMean_eq_window, hcfg, hwindow, hzero, ringSum_drop_zeros_append]

/-- Settles O14: by O13 the result is the mean of at most C samples, each at most 63. -/
theorem mafStaysInSampleDomain : Obligations.MafStaysInSampleDomain := by
  intro c xs hb hxs hne
  have hc : c.capacityOk = true := by
    obtain ⟨-, -, -, -, hc, -⟩ := c.buildable_iff.mp hb
    exact hc
  obtain ⟨t, hrun, hres⟩ := mafReturnsMeanOfLastSamples (State.resetWith c) xs hc rfl rfl hne
  have hsample : ∀ v ∈ (xs.drop (xs.length - c.capacity)).map (fun x => min x.toNat 255), v ≤ 63 := by
    intro v hv
    obtain ⟨x, hx, rfl⟩ := List.mem_map.mp hv
    exact (Nat.min_le_left _ _).trans (hxs x (List.mem_of_mem_drop hx))
  have hcount : (xs.drop (xs.length - c.capacity)).length ≤ c.capacity := by
    rw [List.length_drop]
    omega
  have hsum := List.sum_le_card_nsmul _ _ hsample
  rw [List.length_map, smul_eq_mul] at hsum
  exact ⟨t, hrun, hres.trans_le (Nat.div_le_of_le_mul (hsum.trans (Nat.mul_le_mul_right 63 hcount)))⟩

end Sys2Proof.Proofs
end

section
/-! SCALE (R170, R171): the clamp from above keeps the exact sum a byte, so RES holds the whole amplitude. -/

namespace Sys2Proof.Machine

/-! ### The amplitude of a code (R170) -/

theorem scaleCode_of_le {c : Config} {code : Nat} (h : c.floor + code * c.slope ≤ 255) :
    scaleCode c code = c.floor + code * c.slope := Nat.min_eq_left h

theorem scaleCode_of_ge {c : Config} {code : Nat} (h : 255 ≤ c.floor + code * c.slope) : scaleCode c code = 255 :=
  Nat.min_eq_right h

theorem scaleCode_le (c : Config) (code : Nat) : scaleCode c code ≤ 255 := Nat.min_le_right _ _

/-! ### The result word of SCALE -/

theorem resultWord_scaleCode (c : Config) (code : Nat) :
    resultWord (scaleCode c code) =
      if c.floor + code * c.slope ≤ 255 then BitVec.ofNat 32 (c.floor + code * c.slope) else 255 := by
  split
  case isTrue hle => exact congrArg resultWord (scaleCode_of_le hle)
  case isFalse hgt => exact congrArg resultWord (scaleCode_of_ge (Nat.le_of_not_le hgt))

theorem commandEffect_scale_res_toNat (s : State) :
    (commandEffect .scale s).res.toNat = scaleCode s.cfg s.arg0.toNat := by
  have hle := scaleCode_le s.cfg s.arg0.toNat
  rw [commandEffect_scale, State.clearStatus_res, State.setRes_res, resultWord, BitVec.toNat_ofNat,
    Nat.mod_eq_of_lt (by omega)]

end Sys2Proof.Machine

namespace Sys2Proof.Proofs

open Sys2Proof.Machine

/-- Settles O7: the two branches are the two sides of the clamp. -/
theorem scaleResult : Obligations.ScaleResult := by
  refine ⟨by decide, fun s => ?_⟩
  rw [exec_eq_commandEffect, commandEffect_scale, resultWord_scaleCode]
  rfl

/-- Settles O8: code 63 reaches exactly 255, where the two clauses meet. -/
theorem referenceScaleIsOneToOne : Obligations.ReferenceScaleIsOneToOne := by
  intro s hfloor hslope
  have hsum : s.cfg.floor + s.arg0.toNat * s.cfg.slope = 66 + 3 * s.arg0.toNat := by
    rw [hfloor, hslope, Nat.mul_comm]
  refine ⟨commandEffect .scale s, exec_eq_commandEffect _ _, fun hcode => ?_, fun hcode => ?_⟩
  · rw [commandEffect_scale_res_toNat, scaleCode_of_le (by omega), hsum]
  · rw [commandEffect_scale_res_toNat, scaleCode_of_ge (by omega)]

end Sys2Proof.Proofs
end

section
/-! BAT_UPDATE (R180 to R182): a count within GUARD is stored as it is, one above it trips, and a run of low samples
counts up to GUARD and then trips with each further sample. -/

namespace Sys2Proof.Machine

/-! ### The count with the sample in it (R180) -/

theorem debounceCount_of_lt {c : Config} {raw : Word} {n : Byte} (h : raw.toNat < c.lowThreshold) :
    debounceCount c raw n = min (n.toNat + 1) 255 := if_pos h

theorem debounceCount_of_ge {c : Config} {raw : Word} {n : Byte} (h : c.lowThreshold ≤ raw.toNat) :
    debounceCount c raw n = 0 := if_neg (Nat.not_lt.mpr h)

/-- A count of at most GUARD is never saturated, because GUARD is at most 254 (R7). -/
theorem debounceCount_of_lt_of_le_guard {c : Config} {raw : Word} {n : Byte} (hguard : c.guard ≤ 254)
    (hn : n.toNat ≤ c.guard) (h : raw.toNat < c.lowThreshold) : debounceCount c raw n = n.toNat + 1 := by
  rw [debounceCount_of_lt h, Nat.min_eq_left (by omega)]

theorem batteryGood_of_le {c : Config} {n : Nat} (h : n ≤ c.guard) : batteryGood c n = true := by
  simpa [batteryGood] using h

theorem batteryGood_of_lt {c : Config} {n : Nat} (h : c.guard < n) : batteryGood c n = false := by
  simpa [batteryGood] using h

/-! ### The two outcomes of BAT_UPDATE (R180) -/

theorem commandEffect_batUpdate_of_le {s : State} {n : Nat} (hcount : debounceCount s.cfg s.arg0 s.batCnt = n)
    (h : n ≤ s.cfg.guard) :
    commandEffect .batUpdate s = ((s.setBattery (BitVec.ofNat 8 n) true).setRes 1).clearStatus := by
  rw [commandEffect_batUpdate, hcount, storedCount, batteryGood_of_le h]
  rfl

theorem commandEffect_batUpdate_of_lt {s : State} {n : Nat} (hcount : debounceCount s.cfg s.arg0 s.batCnt = n)
    (h : s.cfg.guard < n) :
    commandEffect .batUpdate s = ((s.setBattery (BitVec.ofNat 8 (n - 1)) false).setRes 0).clearStatus := by
  rw [commandEffect_batUpdate, hcount, storedCount, batteryGood_of_lt h]
  rfl

/-- In the tripped state a low sample trips again: the decrement undoes the increment (R182). -/
theorem commandEffect_batUpdate_of_tripped {s : State} (hguard : s.cfg.guard ≤ 254)
    (hcnt : s.batCnt.toNat = s.cfg.guard) (hlow : s.arg0.toNat < s.cfg.lowThreshold) :
    commandEffect .batUpdate s = ((s.setBattery s.batCnt false).setRes 0).clearStatus := by
  rw [commandEffect_batUpdate_of_lt (debounceCount_of_lt_of_le_guard hguard hcnt.le hlow) (by omega),
    Nat.add_sub_cancel, BitVec.ofNat_toNat, BitVec.setWidth_eq]

/-! ### Runs of low samples (R182) -/

/-- The battery monitor after `n` consecutive low samples from a count of 0: the count stops at GUARD, and the last
sample, if there was one, reported whether `n` is within GUARD. -/
structure State.AfterLowSamples (s : State) (n : Nat) : Prop where
  count : s.batCnt.toNat = min n s.cfg.guard
  report : n ≠ 0 → s.batGood = decide (n ≤ s.cfg.guard) ∧ s.res = if n ≤ s.cfg.guard then 1 else 0

theorem State.afterLowSamples_zero {s : State} (h : s.batCnt = 0) : s.AfterLowSamples 0 where
  count := by simp [h]
  report h0 := absurd rfl h0

theorem State.AfterLowSamples.setArg0 {s : State} {n : Nat} (h : s.AfterLowSamples n) (v : Word) :
    (s.setArg0 v).AfterLowSamples n := { h with }

/-- One more low sample: below GUARD it is counted, at GUARD it trips. -/
theorem State.AfterLowSamples.after_batUpdate {s : State} {n : Nat} (h : s.AfterLowSamples n)
    (hguard : s.cfg.guard ≤ 254) (hlow : s.arg0.toNat < s.cfg.lowThreshold) :
    (commandEffect .batUpdate s).AfterLowSamples (n + 1) := by
  have hcnt := h.count
  obtain hn | hn := Nat.lt_or_ge n s.cfg.guard
  · rw [Nat.min_eq_left hn.le] at hcnt
    have hcount := debounceCount_of_lt_of_le_guard hguard (hcnt.trans_le hn.le) hlow
    rw [hcnt] at hcount
    rw [commandEffect_batUpdate_of_le hcount hn]
    refine ⟨?_, fun _ => ⟨(decide_eq_true hn).symm, (if_pos hn).symm⟩⟩
    simp only [clearStatus_batCnt, clearStatus_cfg, setRes_batCnt, setRes_cfg, setBattery_batCnt, setBattery_cfg,
      BitVec.toNat_ofNat]
    omega
  · rw [Nat.min_eq_right hn] at hcnt
    have hover : ¬ n + 1 ≤ s.cfg.guard := by omega
    rw [commandEffect_batUpdate_of_tripped hguard hcnt hlow]
    exact ⟨hcnt.trans (Nat.min_eq_right (Nat.le_succ_of_le hn)).symm,
      fun _ => ⟨(decide_eq_false hover).symm, (if_neg hover).symm⟩⟩

/-- A run of low samples adds its length to the number of samples and keeps the parameters. -/
theorem State.AfterLowSamples.after_batUpdates {s t : State} {n : Nat} (h : s.AfterLowSamples n)
    (hguard : s.cfg.guard ≤ 254) {xs : List Word} (hlow : ∀ x ∈ xs, x.toNat < s.cfg.lowThreshold)
    (hrun : repeatCommand .batUpdate xs s = .next t) : t.AfterLowSamples (n + xs.length) ∧ t.cfg = s.cfg := by
  induction xs generalizing s n with
  | nil =>
    cases hrun
    exact ⟨h, rfl⟩
  | cons x xs ih =>
    rw [repeatCommand_cons] at hrun
    obtain ⟨hx, hxs⟩ := List.forall_mem_cons.mp hlow
    have hcfg : (commandEffect .batUpdate (s.setArg0 x)).cfg = s.cfg := commandEffect_cfg _ _
    obtain ⟨hafter, ht⟩ := ih ((h.setArg0 x).after_batUpdate hguard hx) (hcfg ▸ hguard) (hcfg ▸ hxs) hrun
    rw [List.length_cons, Nat.add_comm xs.length, ← Nat.add_assoc]
    exact ⟨hafter, ht.trans hcfg⟩

end Sys2Proof.Machine

namespace Sys2Proof.Proofs

open Sys2Proof.Machine

/-- Settles O9: the two branches are the two outcomes of the comparison with GUARD. -/
theorem batUpdateResult : Obligations.BatUpdateResult := by
  refine ⟨by decide, fun s c hc => ?_⟩
  have hcount : debounceCount s.cfg s.arg0 s.batCnt = c := hc.symm
  rw [exec_eq_commandEffect]
  obtain hlt | hle := Nat.lt_or_ge s.cfg.guard c
  · rw [commandEffect_batUpdate_of_lt hcount hlt, if_pos hlt, if_pos hlt, decide_eq_false hlt.not_ge]
    rfl
  · rw [commandEffect_batUpdate_of_le hcount hle, if_neg hle.not_gt, if_neg hle.not_gt, decide_eq_true hle]
    rfl

/-- Settles O10: the count is 0, which is never above GUARD. -/
theorem goodSampleClearsTrip : Obligations.GoodSampleClearsTrip := by
  intro s hgood
  rw [exec_eq_commandEffect, commandEffect_batUpdate_of_le (debounceCount_of_ge hgood) (Nat.zero_le _)]
  rfl

/-- Settles O11, by induction over the run with the number of low samples so far. -/
theorem batteryTripsAfterGuardLowSamples : Obligations.BatteryTripsAfterGuardLowSamples := by
  refine ⟨fun s hguard hcnt hlow => ?_, fun s xs hguard hzero hlow => ?_⟩
  · rw [exec_eq_commandEffect, commandEffect_batUpdate_of_tripped hguard hcnt hlow]
    rfl
  · obtain ⟨t, hrun⟩ := repeatCommand_next .batUpdate xs s
    obtain ⟨hafter, hcfg⟩ := (State.afterLowSamples_zero hzero).after_batUpdates hguard hlow hrun
    rw [Nat.zero_add] at hafter
    exact ⟨t, hrun, hcfg ▸ hafter.count, fun hne => hcfg ▸ hafter.report (mt List.length_eq_zero_iff.mp hne)⟩

end Sys2Proof.Proofs
end

section
/-! Commands that do no arithmetic: NOP (R190), and the illegal words, which are the words from 6 on (R82, R191). -/

namespace Sys2Proof

/-- The illegal words are exactly those from 6 on, since the legal ones are the opcodes 0..5 under zero reserved bits
(R82, R83). -/
theorem exists_decode_eq_error_iff (w : Word) : (∃ c, decode w = .error c) ↔ 6 ≤ w.toNat := by
  constructor
  · rintro ⟨c, hc⟩
    cases c with
    | reservedBits =>
      have hrsv := (decode_eq_reservedBits_iff w).mp hc
      omega
    | reservedOpcode => exact ((decode_eq_reservedOpcode_iff w).mp hc).2.trans (Nat.mod_le _ _)
  · intro hw
    by_cases hrsv : w.toNat / 16 = 0
    · exact ⟨.reservedOpcode, (decode_eq_reservedOpcode_iff w).mpr ⟨hrsv, by omega⟩⟩
    · exact ⟨.reservedBits, (decode_eq_reservedBits_iff w).mpr hrsv⟩

end Sys2Proof

namespace Sys2Proof.Machine

/-- A step at a CMD write of an illegal word: the bus access completes all the same (R201). -/
theorem step_illegalCommand {s : State} {w : Word} {c : IllegalCause} {rest : List Event} (hb : s.cfg.buildable = true)
    (hi : s.input = .access { kind := .write w, addr := s.cfg.base + 0x000, bits := 32 } :: rest)
    (hd : decode w = .error c) : step s = .next (takeIllegal c ((s.setInput rest).respond .written)) := by
  rw [step_write hb hi (by decide) (by decide)]
  exact execWord_of_decode_eq_error hd _

end Sys2Proof.Machine

namespace Sys2Proof.Proofs

open Sys2Proof.Machine

/-- Settles O37: a word from 6 on decodes to a cause, and the step takes that cause's effect. -/
theorem illegalCommandChangesOnlyStatus : Obligations.IllegalCommandChangesOnlyStatus := by
  intro s w rest hb hi hw
  obtain ⟨c, hc⟩ := (exists_decode_eq_error_iff w).mpr hw
  rw [step_illegalCommand hb hi hc, takeIllegal_eq, causeCode_of_decode_eq_error hc]
  rfl

/-- Settles O5: NOP's effect is the clearing of the status alone. -/
theorem nopClearsStatusOnly : Obligations.NopClearsStatusOnly := by
  refine ⟨rfl, fun s => ?_⟩
  rw [exec_eq_commandEffect, commandEffect_nop]
  rfl

end Sys2Proof.Proofs
end

section
/-! Safety of runs (R202, R214): a buildable block with accepted events only at its port takes every step, and stays such
a block. -/

namespace Sys2Proof.Machine

/-- A run is safe for any number of steps from a state of a predicate whose states all step to a state of it. -/
theorem safeFor_of_progress {P : State → Prop} (hP : ∀ s, P s → ∃ t, step s = .next t ∧ P t) (n : Nat) {s : State}
    (hs : P s) : SafeFor n s := by
  induction n generalizing s with
  | zero => exact ⟨s, run_zero s⟩
  | succ n ih =>
    obtain ⟨t, hstep, ht⟩ := hP s hs
    obtain ⟨u, hrun⟩ := ih ht
    exact ⟨u, run_succ_eq_next hstep hrun⟩

/-- The block can be built, and only resets and accesses to its window are still to come. -/
structure State.Serviceable (s : State) : Prop where
  buildable : s.cfg.buildable = true
  accepted : ∀ e ∈ s.input, e.Accepted s.cfg

/-- A serviceable block takes a step, at its oldest event or, with none at the port, in place (R44, log entry 3). -/
theorem State.Serviceable.step_next {s : State} (h : s.Serviceable) : ∃ t, step s = .next t := by
  match hi : s.input with
  | [] => exact ⟨s, step_of_input_nil h.buildable hi⟩
  | e :: rest => exact step_of_accepted h.buildable hi (h.accepted e (hi ▸ List.mem_cons_self))

/-- A step of the block does not move the window and brings no event to the port. -/
theorem State.Serviceable.after_step {s t : State} (h : s.Serviceable) (hs : step s = .next t) : t.Serviceable := by
  obtain ⟨hcfg, hinput⟩ := step_port hs
  constructor
  · rw [hcfg]
    exact h.buildable
  · rw [hcfg, hinput]
    exact fun e he => h.accepted e (List.mem_of_mem_tail he)

end Sys2Proof.Machine

namespace Sys2Proof.Proofs

open Sys2Proof.Machine

/-- Settles O51, by the invariant that only accepted events are still to come. -/
theorem acceptedEventsNeverStopTheBlock : Obligations.AcceptedEventsNeverStopTheBlock := by
  intro n s hb haccepted
  refine safeFor_of_progress (P := State.Serviceable) (fun s hs => ?_) n ⟨hb, haccepted⟩
  obtain ⟨t, hstep⟩ := hs.step_next
  exact ⟨t, hstep, hs.after_step hstep⟩

end Sys2Proof.Proofs
end

section
/-! What no step writes (R244), and the reset event (R230). -/

namespace Sys2Proof.Proofs

open Sys2Proof.Machine

/-- Settles O46. -/
theorem resetEventGivesTheResetState : Obligations.ResetEventGivesTheResetState :=
  fun _ _ hb hi => step_reset hb hi

/-- Settles O49: a reset builds the block anew from its own configuration, and no access writes it. -/
theorem nothingWritesTheConfiguration : Obligations.NothingWritesTheConfiguration :=
  fun _ _ h => (step_port h).1

end Sys2Proof.Proofs
end

section
/-! Host faults and serialization (R240): a program that completes is serialized, and one of accepted events that does
not complete ends with the host fault. -/

namespace Sys2Proof.Machine

/-- One more access keeps a program serialized unless an overtaken sequence takes part in it. -/
theorem Serialized.append_singleton {c : Config} {p : List HostAccess} {z : HostAccess} (hp : Serialized c p)
    (hz : ∀ q, z.sequence = some q → Overtaken c q p → z.event.role c = .other) : Serialized c (p ++ [z]) := by
  rw [serialized_iff_of_overtaken] at hp ⊢
  intro p' rest z' q heq hq hover
  obtain rfl | ⟨rest', y, rfl⟩ := List.eq_nil_or_concat' rest
  · obtain ⟨rfl, hlast⟩ := List.append_inj' heq rfl
    cases hlast
    exact hz q hq hover
  · rw [← List.cons_append, ← List.append_assoc] at heq
    exact hp p' rest' z' q (List.append_inj' heq rfl).1 hq hover

/-- A step of a host program keeps the configuration (R244). -/
theorem hostStep_cfg {a : HostAccess} {h g : HostState} (hs : hostStep a h = .next g) :
    g.block.cfg = h.block.cfg :=
  (step_port ((hostStep_eq_next_iff a h g).mp hs).2).1

/-- A program that completes behind a serialized one goes on serialized. -/
theorem serialized_of_runHost_next (tr : List HostAccess) {p : List HostAccess} {h g : HostState}
    (hm : h.monitor.Tracks h.block.cfg p) (hp : Serialized h.block.cfg p) (hrun : runHost tr h = .next g) :
    Serialized h.block.cfg (p ++ tr) := by
  induction tr generalizing p h with
  | nil => rwa [List.append_nil]
  | cons a tr ih =>
    obtain ⟨k, hstep, hrest⟩ := (runHost_cons_eq_next_iff a tr h g).mp hrun
    obtain ⟨hobserve, -⟩ := (hostStep_eq_next_iff a h k).mp hstep
    have hcfg := hostStep_cfg hstep
    have hpa : Serialized h.block.cfg (p ++ [a]) := by
      refine hp.append_singleton fun q hq hover => by_contra fun hrole => ?_
      have hnone := (hm.observe_eq_none_iff a).mpr ⟨hrole, q, hq, hover⟩
      cases hobserve.symm.trans hnone
    rw [← List.singleton_append, ← List.append_assoc, ← hcfg]
    exact ih (hcfg ▸ hm.observe hobserve) (hcfg ▸ hpa) hrest

/-- A step of a host program at an accepted event goes on or ends with the host fault; it is not refused. -/
theorem hostStep_of_accepted {a : HostAccess} {h : HostState} (hb : h.block.cfg.buildable = true)
    (ha : a.event.Accepted h.block.cfg) :
    (∃ g, hostStep a h = .next g) ∨ hostStep a h = .fault .interleavedSequences := by
  obtain ⟨s, hs⟩ := step_of_accepted (s := h.block.setInput [a.event]) hb rfl ha
  match hm : h.monitor.observe a.sequence (a.event.role h.block.cfg) with
  | none => exact .inr ((hostStep_eq_fault_iff a h _).mpr hm)
  | some m => exact .inl ⟨{ block := s, monitor := m }, (hostStep_eq_next_iff _ _ _).mpr ⟨hm, hs⟩⟩

/-- A host program of accepted events completes or ends with the host fault. -/
theorem runHost_of_accepted (tr : List HostAccess) {h : HostState} (hb : h.block.cfg.buildable = true)
    (htr : ∀ x ∈ tr, x.event.Accepted h.block.cfg) :
    (∃ g, runHost tr h = .next g) ∨ runHost tr h = .fault .interleavedSequences := by
  induction tr generalizing h with
  | nil => exact .inl ⟨h, rfl⟩
  | cons a tr ih =>
    obtain ⟨k, hk⟩ | hfault := hostStep_of_accepted hb (htr a List.mem_cons_self)
    · rw [runHost_cons_of_next hk]
      rw [← hostStep_cfg hk] at hb htr
      exact ih hb fun x hx => htr x (List.mem_cons_of_mem a hx)
    · exact .inr (by rw [runHost, hfault])

end Sys2Proof.Machine

namespace Sys2Proof.Proofs

open Sys2Proof.Machine

/-- Settles O54: a serialized program completes, a program that completes is serialized, and nothing but the host fault
keeps a program of accepted events from completing. -/
theorem hostFaultsExactlyWhenNotSerialized : Obligations.HostFaultsExactlyWhenNotSerialized := by
  intro s tr hb htr
  have hstart := SequenceMonitor.tracks_start s.cfg
  have hnil : Serialized s.cfg [] := serialized_of_one_sequence s.cfg (n := 0) (fun _ hx => nomatch hx)
  constructor
  · intro hfault hs
    obtain ⟨g, hg⟩ := runHost_next_of_serialized tr (h := { block := s, monitor := .start }) hb hstart htr hs
    cases hfault.symm.trans hg
  · intro hns
    obtain ⟨g, hg⟩ | hfault := runHost_of_accepted tr (h := { block := s, monitor := .start }) hb htr
    · exact absurd (serialized_of_runHost_next tr (p := []) hstart hnil hg) hns
    · exact hfault

end Sys2Proof.Proofs
end

section
/-! What a command sequence finds in the registers while no host fault is raised (R240, R242, R243): another sequence's
write to a register makes the first one overtaken, and an overtaken sequence takes part no more. -/

namespace Sys2Proof.Machine

/-! ### The result register -/

/-- An aligned write other than to CMD leaves RES (R24). -/
theorem writeWord_res {o : Nat} {w : Word} {s t : State} (ha : o % 4 = 0) (h : writeWord o w s = .next t) :
    o = offsetOf .cmd ∨ t.res = s.res := by
  obtain ⟨i, hr, -, -⟩ | ⟨c, hr, -, -⟩ | ⟨-, rfl⟩ | ⟨-, rfl⟩ | rfl := writeWord_cases h
  · exact .inl (offsetOf_of_regAt ha hr).symm
  · exact .inl (offsetOf_of_regAt ha hr).symm
  all_goals exact .inr rfl

theorem serve_res {a : Access} {s t : State} (h : serve a s = .next t) :
    (∃ w, .access a = wr s.cfg .cmd w) ∨ t.res = s.res := by
  obtain ⟨hw, ⟨e, -, rfl⟩ | ⟨-, -, rfl⟩ | ⟨w, hn, hk, hwrite⟩⟩ := serve_cases h
  · exact .inr rfl
  · exact .inr rfl
  · obtain ⟨hacc, ha⟩ := Access.eq_of_accepted hw hn
    rw [hk] at hacc
    obtain ho | hres := writeWord_res ha hwrite
    · rw [ho] at hacc
      exact .inl ⟨w, congrArg Event.access hacc⟩
    · exact .inr hres

/-- A step other than a reset or a CMD write leaves RES. -/
theorem step_res {s t : State} (h : step s = .next t) :
    (∃ rest, s.input = .reset :: rest) ∨ (∃ w rest, s.input = wr s.cfg .cmd w :: rest) ∨ t.res = s.res := by
  obtain ⟨-, ⟨-, rfl⟩ | ⟨a, rest, hi, hserve⟩ | ⟨rest, hi, -⟩⟩ := step_cases h
  · exact .inr (.inr rfl)
  · exact .inr ((serve_res hserve).imp (fun ⟨w, hw⟩ => ⟨w, rest, hw ▸ hi⟩) id)
  · exact .inl ⟨rest, hi⟩

/-! ### Roles of the accesses of a script -/

/-- A 32-bit access at a register's offset has the role of that register. -/
theorem role_at_register (c : Config) (k : AccessKind) (r : Reg) :
    (Event.access { kind := k, addr := c.base + offsetOf r, bits := 32 }).role c = registerRole k (some r) := by
  rw [Event.role, Access.inWindow_base_add _ _ _ (offsetOf_lt r), Access.busError_base_add _ _ (offsetOf_aligned r),
    Access.offset_base_add, regAt_offsetOf]
  rfl

theorem role_wr (c : Config) (r : Reg) (v : Word) : (wr c r v).role c = registerRole (.write v) (some r) :=
  role_at_register c _ r

theorem role_rd (c : Config) (r : Reg) : (rd c r).role c = registerRole .read (some r) := role_at_register c _ r

/-! ### Registers that change at the writes of sequences only -/

/-- A write to `port` is a sequence's write, and the register `r` changes at such a write and at a reset only. -/
structure WrittenOnlyThrough (r port : Reg) : Prop where
  role : ∀ w, registerRole (.write w) (some port) = .write
  step_cases : ∀ {s t : State}, step s = .next t →
    (∃ rest, s.input = .reset :: rest) ∨ (∃ w rest, s.input = wr s.cfg port w :: rest) ∨ t.readReg r = s.readReg r

theorem arg0_writtenOnlyThrough : WrittenOnlyThrough .arg0 .arg0 where
  role _ := rfl
  step_cases h := by
    obtain hreset | ⟨w, rest, hi, -⟩ | ⟨-, -, -, harg⟩ | ⟨harg, -⟩ := step_operands h
    · exact .inl hreset
    · exact .inr (.inl ⟨w, rest, hi⟩)
    · exact .inr (.inr harg)
    · exact .inr (.inr harg)

theorem arg1_writtenOnlyThrough : WrittenOnlyThrough .arg1 .arg1 where
  role _ := rfl
  step_cases h := by
    obtain hreset | ⟨-, -, -, harg⟩ | ⟨w, rest, hi, -⟩ | ⟨-, harg⟩ := step_operands h
    · exact .inl hreset
    · exact .inr (.inr harg)
    · exact .inr (.inl ⟨w, rest, hi⟩)
    · exact .inr (.inr harg)

theorem res_writtenOnlyThrough : WrittenOnlyThrough .res .cmd where
  role _ := rfl
  step_cases := step_res

/-! ### What the monitor lets a sequence rely on -/

theorem SequenceMonitor.mem_overtaken_of_observe {m n : SequenceMonitor} {s : Option Nat} {k : SequenceRole} {q : Nat}
    (h : m.observe s k = some n) (hq : q ∈ m.overtaken) : q ∈ n.overtaken := by
  obtain ⟨-, -, rfl⟩ | ⟨-, -, rfl⟩ | ⟨-, rfl⟩ := SequenceMonitor.observe_cases h
  · exact (m.mem_write_overtaken s q).mpr (.inl hq)
  · exact hq
  · exact hq

/-- The sequence that wrote last is overtaken by another's write, and by nothing else. -/
theorem SequenceMonitor.observe_of_current {m n : SequenceMonitor} {s : Option Nat} {k : SequenceRole} {q : Nat}
    (h : m.observe s k = some n) (hq : m.current = some q) :
    q ∈ n.overtaken ∨ (n.current = some q ∧ (k = .write → s = some q)) := by
  obtain ⟨-, -, rfl⟩ | ⟨rfl, -, rfl⟩ | ⟨rfl, rfl⟩ := SequenceMonitor.observe_cases h
  · by_cases hs : s = some q
    · exact .inr ⟨(m.write_current s).trans hs, fun _ => hs⟩
    · exact .inl ((m.mem_write_overtaken s q).mpr (.inr ⟨hq, hs⟩))
  · exact .inr ⟨hq, nofun⟩
  · exact .inr ⟨hq, nofun⟩

/-- Unless the sequence `q` is overtaken, it wrote last and the register `r` holds `v`. -/
def HostState.HoldsFor (h : HostState) (q : Nat) (r : Reg) (v : Word) : Prop :=
  q ∈ h.monitor.overtaken ∨ (h.monitor.current = some q ∧ h.block.readReg r = v)

/-- A sequence's write leaves the sequence the last writer. -/
theorem HostState.holdsFor_of_write {h g : HostState} {a : HostAccess} {q : Nat} (r : Reg)
    (hs : hostStep a h = .next g) (hq : a.sequence = some q) (hrole : a.event.role h.block.cfg = .write) :
    g.HoldsFor q r (g.block.readReg r) := by
  obtain ⟨hobserve, -⟩ := (hostStep_eq_next_iff a h g).mp hs
  rw [hrole, hq] at hobserve
  obtain ⟨-, -, hm⟩ | ⟨hk, -⟩ | ⟨hk, -⟩ := SequenceMonitor.observe_cases hobserve
  · exact .inr ⟨hm ▸ h.monitor.write_current (some q), rfl⟩
  · cases hk
  · cases hk

/-- The register keeps its value for the sequence over every step but a reset and its own write to the register. -/
theorem HostState.HoldsFor.after_step {h g : HostState} {a : HostAccess} {q : Nat} {r port : Reg} {v : Word}
    (hold : h.HoldsFor q r v) (hr : WrittenOnlyThrough r port) (hs : hostStep a h = .next g)
    (hreset : a.event ≠ .reset) (hown : a.sequence = some q → ∀ u, a.event ≠ wr h.block.cfg port u) :
    g.HoldsFor q r v := by
  obtain ⟨hobserve, hblock⟩ := (hostStep_eq_next_iff a h g).mp hs
  obtain hq | ⟨hq, hv⟩ := hold
  · exact .inl (SequenceMonitor.mem_overtaken_of_observe hobserve hq)
  obtain hover | ⟨hcurrent, hwriter⟩ := SequenceMonitor.observe_of_current hobserve hq
  · exact .inl hover
  obtain ⟨rest, hi⟩ | ⟨w, rest, hi⟩ | hkeep := hr.step_cases hblock
  · exact absurd (List.head_eq_of_cons_eq hi) hreset
  · have hevent : a.event = wr h.block.cfg port w := List.head_eq_of_cons_eq hi
    have hrole : a.event.role h.block.cfg = .write := by rw [hevent, role_wr, hr.role]
    exact absurd hevent (hown (hwriter hrole) w)
  · exact .inr ⟨hcurrent, hkeep.trans ((State.setInput_readReg _ _ r).trans hv)⟩

theorem HostState.HoldsFor.after_run {mid : List HostAccess} {h g : HostState} {q : Nat} {r port : Reg} {v : Word}
    (hold : h.HoldsFor q r v) (hr : WrittenOnlyThrough r port) (hrun : runHost mid h = .next g)
    (hmid : ∀ x ∈ mid, x.event ≠ .reset ∧ (x.sequence = some q → ∀ u, x.event ≠ wr h.block.cfg port u)) :
    g.HoldsFor q r v ∧ g.block.cfg = h.block.cfg := by
  induction mid generalizing h with
  | nil =>
    cases hrun
    exact ⟨hold, rfl⟩
  | cons a mid ih =>
    obtain ⟨k, hstep, hrest⟩ := (runHost_cons_eq_next_iff a mid h g).mp hrun
    obtain ⟨hreset, hown⟩ := hmid a List.mem_cons_self
    have hold' := hold.after_step hr hstep hreset hown
    rw [← hostStep_cfg hstep] at hmid ⊢
    exact ih hold' hrest fun x hx => hmid x (List.mem_cons_of_mem a hx)

/-- A sequence that takes part without a host fault is not overtaken, so it finds the register's value. -/
theorem HostState.HoldsFor.readReg_of_step {h g : HostState} {a : HostAccess} {q : Nat} {r : Reg} {v : Word}
    (hold : h.HoldsFor q r v) (hs : hostStep a h = .next g) (hq : a.sequence = some q)
    (hrole : a.event.role h.block.cfg ≠ .other) : h.block.readReg r = v := by
  obtain hover | ⟨-, hv⟩ := hold
  · obtain ⟨hobserve, -⟩ := (hostStep_eq_next_iff a h g).mp hs
    have hnone : h.monitor.observe a.sequence (a.event.role h.block.cfg) = none :=
      (h.monitor.observe_eq_none_iff _ _).mpr ⟨hrole, by rw [hq]; exact decide_eq_true hover⟩
    cases hobserve.symm.trans hnone
  · exact hv

/-- What a sequence's write to `port` leaves in the register `r` is what the sequence finds there when it takes part
again, with anything but a reset and another such write of its own in between. -/
theorem readReg_survives {h k h' g : HostState} {q : Nat} {r port : Reg} {u : Word} {mid : List HostAccess} {e : Event}
    (hr : WrittenOnlyThrough r port)
    (hwrite : hostStep { sequence := some q, event := wr h.block.cfg port u } h = .next k)
    (hrun : runHost mid k = .next h')
    (hmid : ∀ x ∈ mid, x.event ≠ .reset ∧ (x.sequence = some q → ∀ w, x.event ≠ wr h.block.cfg port w))
    (hlast : hostStep { sequence := some q, event := e } h' = .next g) (hrole : e.role h.block.cfg ≠ .other) :
    h'.block.readReg r = k.block.readReg r ∧ h'.block.cfg = h.block.cfg := by
  have hcfg := hostStep_cfg hwrite
  have hold : k.HoldsFor q r (k.block.readReg r) :=
    HostState.holdsFor_of_write r hwrite rfl ((role_wr _ _ _).trans (hr.role u))
  rw [← hcfg] at hmid hrole ⊢
  obtain ⟨hold', hcfg'⟩ := hold.after_run hr hrun hmid
  exact ⟨hold'.readReg_of_step hlast rfl (hcfg' ▸ hrole), hcfg'⟩

/-! ### What the first and the last access of a sequence do -/

/-- A host program's 32-bit write to a register is that write to the block. -/
theorem hostStep_wr {h g : HostState} {q : Option Nat} {r : Reg} {v : Word}
    (hs : hostStep { sequence := q, event := wr h.block.cfg r v } h = .next g) :
    writeWord (offsetOf r) v ((h.block.setInput []).respond .written) = .next g.block := by
  obtain ⟨-, hblock⟩ := (hostStep_eq_next_iff _ h g).mp hs
  obtain ⟨hb, -⟩ := step_cases hblock
  rw [← hblock]
  exact (step_write (s := h.block.setInput [wr h.block.cfg r v]) hb rfl (offsetOf_lt r) (offsetOf_aligned r)).symm

/-- A host program's 32-bit read of a register is answered with the register. -/
theorem hostStep_rd {h g : HostState} {q : Option Nat} {r : Reg}
    (hs : hostStep { sequence := q, event := rd h.block.cfg r } h = .next g) :
    g.block.response = .readData (h.block.readReg r) := by
  obtain ⟨-, hblock⟩ := (hostStep_eq_next_iff _ h g).mp hs
  obtain ⟨hb, -⟩ := step_cases hblock
  have hread := step_read (s := h.block.setInput [rd h.block.cfg r]) hb rfl (offsetOf_lt r) (offsetOf_aligned r)
  rw [State.setInput_readWord, State.setInput_readWord, State.readWord_of_regAt (regAt_offsetOf r)] at hread
  rw [Host.Outcome.next.inj (hblock.symm.trans hread), State.respond_response]

/-- An operand register that takes the words written to it holds its sequence's operand at the CMD write. -/
theorem operand_survives {h h' g : HostState} {q : Nat} {v w : Word} {mid : List HostAccess} {r : Reg}
    (hr : WrittenOnlyThrough r r) (htakes : ∀ {s t : State}, writeWord (offsetOf r) v s = .next t → t.readReg r = v)
    (hreset : ∀ x ∈ mid, x.event ≠ .reset)
    (hcmd : hostStep { sequence := some q, event := wr h.block.cfg .cmd w } h' = .next g)
    (hrun : runHost ({ sequence := some q, event := wr h.block.cfg r v } :: mid) h = .next h')
    (hown : ∀ x ∈ mid, x.sequence = some q → ∀ u, x.event ≠ wr h.block.cfg r u) : h'.block.readReg r = v := by
  obtain ⟨k, hwrite, hrest⟩ := (runHost_cons_eq_next_iff _ mid h h').mp hrun
  have hrole : (wr h.block.cfg .cmd w).role h.block.cfg ≠ .other := by
    rw [role_wr]
    nofun
  obtain ⟨hkeep, -⟩ := readReg_survives hr hwrite hrest (fun x hx => ⟨hreset x hx, hown x hx⟩) hcmd hrole
  exact hkeep.trans (htakes (hostStep_wr hwrite))

end Sys2Proof.Machine

namespace Sys2Proof.Proofs

open Sys2Proof.Machine

/-- Settles O56, by the invariant that a sequence which is not overtaken has its operand in the register. -/
theorem operandsSurviveUntilTheCommand : Obligations.OperandsSurviveUntilTheCommand := by
  intro h h' g q v w mid hreset hcmd
  refine ⟨operand_survives arg0_writtenOnlyThrough ?arg0 hreset hcmd,
    operand_survives arg1_writtenOnlyThrough ?arg1 hreset hcmd⟩
  all_goals
    intro s t ht
    cases ht
    rfl

/-- Settles O57, by the same invariant for RES, which only CMD writes change. -/
theorem resultSurvivesUntilItsRead : Obligations.ResultSurvivesUntilItsRead := by
  intro h h₁ h₂ g q w mid hwrite hrun hmid hread
  have hrole : (rd h.block.cfg .res).role h.block.cfg ≠ .other := by
    rw [role_rd]
    nofun
  obtain ⟨hkeep, hcfg⟩ := readReg_survives res_writtenOnlyThrough hwrite hrun hmid hread hrole
  rw [← hcfg] at hread
  rw [hostStep_rd hread, hkeep]
  rfl

end Sys2Proof.Proofs
end
